-- ==== Sys2Proof/Word.lean ====
section
/-! DEFINITION. The widths of the block's values (R4, R6): bytes, the 16-bit checksum, the 32-bit header words. -/

namespace Sys2Proof

/-- A byte, unsigned, 0..255 (R6). -/
abbrev Byte := BitVec 8

/-- A 16-bit value, the width of the checksum (R4 CHECKSUM_WIDTH). -/
abbrev Half := BitVec 16

/-- A header word of the request or the response port (R78, R82). -/
abbrev HeaderWord := BitVec 32

end Sys2Proof
end

