-- ==== Sys2Proof/Syntax.lean ====
section
/-! DEFINITION. The instructions: one constructor for each row of spec/opcode_table.json. -/

namespace Sys2Proof

/-- The two frame layouts DECODE recognises (R74, R75). -/
inductive Shape where
  | keyStatus
  | broadcast
  deriving DecidableEq, Repr

/-- One constructor per row of the opcode table. The first nine are requests (R79, R83) and carry the whole of the
request: the fields an operation ignores, too. The last three are the rows of byte 0 of a chunk (R76): they stand
for what the scanner's classify step does with the chunk it holds. -/
inductive Instr where
  /-- ENCODE (R101). -/
  | encode (cmd : Byte) (payload : List Byte)
  /-- DECODE (R102); `cmd` is ignored (R78). -/
  | decode (cmd : Byte) (chunk : List Byte)
  /-- VALIDATE (R103); `cmd` is ignored (R78). -/
  | validate (cmd : Byte) (chunk : List Byte)
  /-- START (R141); `cmd` is ignored. -/
  | start (cmd : Byte)
  /-- CANCEL (R142); `cmd` is ignored. -/
  | cancel (cmd : Byte)
  /-- Reserved op 0b101 (R83). -/
  | reservedOp5 (rsv : BitVec 5) (cmd : Byte) (data : List Byte)
  /-- Reserved op 0b110 (R83). -/
  | reservedOp6 (rsv : BitVec 5) (cmd : Byte) (data : List Byte)
  /-- Reserved op 0b111 (R83). -/
  | reservedOp7 (rsv : BitVec 5) (cmd : Byte) (data : List Byte)
  /-- Any other illegal request: rsv not 0, or START or CANCEL with data (R83). -/
  | illegalRequest (op : BitVec 3) (rsv : BitVec 5) (cmd : Byte) (data : List Byte)
  /-- Byte 0 is 0x3F (R74). -/
  | keyStatusShape
  /-- Byte 0 is 0x41 (R75). -/
  | broadcastShape
  /-- Byte 0 is any other value (R77). -/
  | unrecognized (b0 : Byte)
  deriving DecidableEq, Repr

end Sys2Proof
end

