-- ==== Sys2Proof/WellFormed.lean ====
section
/-! DEFINITION. Which terms of Instr are instructions of the block: the data fits the 16-bit count (R78), an
illegal request is illegal and no reserved op (R83), an unrecognised byte 0 is none of the two discriminators (R77). -/

namespace Sys2Proof

/-- The data bytes can be counted by the header's 16-bit count field (R78). -/
abbrev dataFits (data : List Byte) : Prop := data.length ≤ 65535

/-- Why a request that is no reserved op is illegal (R83). -/
abbrev illegalReason (op : BitVec 3) (rsv : BitVec 5) (data : List Byte) : Prop :=
  rsv ≠ 0#5 ∨ ((op = 3#3 ∨ op = 4#3) ∧ data ≠ [])

/-- Well-formedness of an instruction. -/
def Instr.wellFormed : Instr → Bool
  | .encode _ payload => decide (dataFits payload)
  | .decode _ chunk => decide (dataFits chunk)
  | .validate _ chunk => decide (dataFits chunk)
  | .start _ => true
  | .cancel _ => true
  | .reservedOp5 _ _ data => decide (dataFits data)
  | .reservedOp6 _ _ data => decide (dataFits data)
  | .reservedOp7 _ _ data => decide (dataFits data)
  | .illegalRequest op rsv _ data => decide (op.toNat < 5 ∧ illegalReason op rsv data ∧ dataFits data)
  | .keyStatusShape => true
  | .broadcastShape => true
  | .unrecognized b0 => decide (b0 ≠ 0x3F#8 ∧ b0 ≠ 0x41#8)

end Sys2Proof
end

