-- ==== Sys2Proof/Decode.lean ====
section
/-! DEFINITION. The decoder and the encoder of requests (R78, R79, R83) and of byte 0 of a chunk (R76). -/

namespace Sys2Proof

/-! ## The two shapes -/

/-- The discriminator of a shape: SHAPE_KEY_CODE and SHAPE_BCAST_CODE (R4, R74, R75). -/
def Shape.code : Shape → Byte
  | .keyStatus => 0x3F#8
  | .broadcast => 0x41#8

/-- N, the fixed payload length of a shape: SHAPE_KEY_LEN and SHAPE_BCAST_LEN (R4, R74, R75). -/
def Shape.payloadLen : Shape → Nat
  | .keyStatus => 1
  | .broadcast => 16

/-- Shape selection from byte 0 alone, by exact match on all 8 bits (R76). -/
def shapeOf (b0 : Byte) : Option Shape :=
  if b0 = 0x3F#8 then some .keyStatus
  else if b0 = 0x41#8 then some .broadcast
  else none

/-! ## The fields of a request header (R78) -/

/-- Bits [2:0]. -/
def hdrOp (h : HeaderWord) : BitVec 3 := h.extractLsb' 0 3

/-- Bits [7:3]. -/
def hdrRsv (h : HeaderWord) : BitVec 5 := h.extractLsb' 3 5

/-- Bits [15:8]. -/
def hdrCmd (h : HeaderWord) : Byte := h.extractLsb' 8 8

/-- Bits [31:16]. -/
def hdrCount (h : HeaderWord) : BitVec 16 := h.extractLsb' 16 16

/-- A header word put together from its four fields. -/
def packHeader (op : BitVec 3) (rsv : BitVec 5) (cmd : Byte) (count : BitVec 16) : HeaderWord :=
  count ++ cmd ++ rsv ++ op

/-! ## Decoding -/

/-- What the decoder reads: a request, or byte 0 of a chunk. -/
inductive Encoded where
  | request (header : HeaderWord) (data : List Byte)
  | byte0 (b0 : Byte)
  deriving DecidableEq, Repr

/-- Why the decoder reads no instruction: the data are not the `count` bytes that the header announces (R78). -/
inductive DecodeError where
  | dataLength (count given : Nat)
  deriving DecidableEq, Repr

/-- A request whose data has the announced length (R79, R83). The rows of the opcode table in their order: a
reserved op whatever the other fields are, then the five operations with rsv 0, then everything else. -/
def decodeRow (op : BitVec 3) (rsv : BitVec 5) (cmd : Byte) (data : List Byte) : Instr :=
  if op = 5#3 then .reservedOp5 rsv cmd data
  else if op = 6#3 then .reservedOp6 rsv cmd data
  else if op = 7#3 then .reservedOp7 rsv cmd data
  else if rsv ≠ 0#5 then .illegalRequest op rsv cmd data
  else if op = 0#3 then .encode cmd data
  else if op = 1#3 then .decode cmd data
  else if op = 2#3 then .validate cmd data
  else if data ≠ [] then .illegalRequest op rsv cmd data
  else if op = 3#3 then .start cmd
  else .cancel cmd

/-- The instruction that byte 0 of a chunk selects (R76, R77). -/
def decodeShape (b0 : Byte) : Instr :=
  match shapeOf b0 with
  | some .keyStatus => .keyStatusShape
  | some .broadcast => .broadcastShape
  | none => .unrecognized b0

/-- The decoder: total, it answers an instruction or says why there is none. -/
def decode : Encoded → Except DecodeError Instr
  | .request h data =>
    if data.length = (hdrCount h).toNat then .ok (decodeRow (hdrOp h) (hdrRsv h) (hdrCmd h) data)
    else .error (.dataLength (hdrCount h).toNat data.length)
  | .byte0 b0 => .ok (decodeShape b0)

/-! ## Encoding -/

/-- A request with its count field filled in (R78). -/
def encodeRequest (op : BitVec 3) (rsv : BitVec 5) (cmd : Byte) (data : List Byte) : Encoded :=
  .request (packHeader op rsv cmd (BitVec.ofNat 16 data.length)) data

/-- The words of a well-formed instruction, from the tables of R79 and R76. -/
def encode : Instr → Encoded
  | .encode cmd payload => encodeRequest 0#3 0#5 cmd payload
  | .decode cmd chunk => encodeRequest 1#3 0#5 cmd chunk
  | .validate cmd chunk => encodeRequest 2#3 0#5 cmd chunk
  | .start cmd => encodeRequest 3#3 0#5 cmd []
  | .cancel cmd => encodeRequest 4#3 0#5 cmd []
  | .reservedOp5 rsv cmd data => encodeRequest 5#3 rsv cmd data
  | .reservedOp6 rsv cmd data => encodeRequest 6#3 rsv cmd data
  | .reservedOp7 rsv cmd data => encodeRequest 7#3 rsv cmd data
  | .illegalRequest op rsv cmd data => encodeRequest op rsv cmd data
  | .keyStatusShape => .byte0 (Shape.code .keyStatus)
  | .broadcastShape => .byte0 (Shape.code .broadcast)
  | .unrecognized b0 => .byte0 b0

/-! ## The opcode table's numbering -/

/-- What the bits `w` of a table row are given to the decoder as. DESIGN CHOICE (log 9): the table holds rows of two
kinds, and a width of one byte does not say which. A word of one byte whose bits [7:3] are not all 0 is byte 0 of a
chunk, and so is a word of a row to which the table gives no bits; every other word is a request header, its upper
bits 0, followed by `count` zero bytes. -/
def tableWord (nbits w : Nat) : Encoded :=
  if nbits = 0 ∨ (nbits ≤ 8 ∧ 8 ≤ w) then .byte0 (BitVec.ofNat 8 w)
  else .request (BitVec.ofNat 32 w) (List.replicate (hdrCount (BitVec.ofNat 32 w)).toNat 0#8)

/-- The instruction the decoder reads from a table row's bits. -/
def decodeTableWord (nbits w : Nat) : Option Instr :=
  match decode (tableWord nbits w) with
  | .ok i => some i
  | .error _ => none

end Sys2Proof
end

