-- ==== Sys2Proof/Config.lean ====
section
/-! DEFINITION. The open parameters of R4, the alphabet of turns the agents of R10 may take, and the free values. -/

namespace Sys2Proof

/-- The open parameters of R4 that are data. They are fixed before reset and constant afterwards (R29); State
holds them, so a claim about every state is a claim about every value of them. -/
structure Params where
  /-- IDLE_INTERVAL in milliseconds; no rule depends on it (R204, I3). -/
  idleInterval : Nat
  /-- SETTLE_INTERVAL in milliseconds; no rule depends on it (R204, I3). -/
  settleInterval : Nat
  /-- FLUSH_ON_INCOMPLETE (R154). -/
  flushOnIncomplete : Bool
  /-- FLUSH_ON_UNRECOGNIZED (R154). -/
  flushOnUnrecognized : Bool
  /-- CHUNK_CAPACITY (R152); `none` is unbounded. -/
  chunkCapacity : Option Nat
  deriving DecidableEq, Repr, Inhabited

/-- The defaults of R4. -/
def Params.defaults : Params where
  idleInterval := 50
  settleInterval := 10
  flushOnIncomplete := true
  flushOnUnrecognized := false
  chunkCapacity := none

/-- The draw that answers the one fallible transport call of a scanner step (R53): the call succeeds, or it
answers Err and leaves RXBUF holding any bytes (R54, I5, I6). -/
inductive TxDraw where
  | ok
  | err (left : List Byte)
  deriving DecidableEq, Repr, Inhabited

/-- What one agent does in one turn (R10). -/
inductive Turn where
  /-- A CALLER issues one request: a header word and the data bytes that follow it (R78). -/
  | caller (header : HeaderWord) (data : List Byte)
  /-- A CALLER hands bytes to one transport write (R56); `lands` says whether the write succeeds. -/
  | callerWrites (bytes : List Byte) (lands : Bool)
  /-- The SCANNER takes a step; `tx` answers its fallible transport call, if it makes one (R53, R140). -/
  | scanner (tx : TxDraw)
  /-- The TRANSPORT appends received bytes to RXBUF (R54). -/
  | transportReceives (bytes : List Byte)
  /-- The TRANSPORT, or a layer below it, drops what RXBUF holds (R54). -/
  | transportDrops
  /-- The transport closes: the OWNER's shutdown (R144), or the adapter itself. -/
  | transportCloses
  /-- The SUPERVISOR opens the transport (R222, R55). -/
  | supervisorOpens
  /-- The SUPERVISOR asserts reconnect_done (R197). -/
  | supervisorDone
  /-- The DISPATCHER asserts dispatch_done (R156). -/
  | dispatcherDone
  /-- The idle timer expires, if it runs (R204). -/
  | idleTimerExpires
  /-- The settle timer expires, if it runs (R204). -/
  | settleTimerExpires
  /-- The OWNER asserts reset (R220). -/
  | ownerResets
  /-- The OWNER tries to change the parameters while the block runs (R29). -/
  | ownerSetsParams (p : Params)
  deriving DecidableEq, Repr, Inhabited

/-- CHECKSUM16 (R100): some function from byte strings to 16-bit values, and nothing more is known of it. -/
opaque Config.checksum16 : List Byte → Half

/-- The free choice of the next turn when State lists none: the `n`-th such choice (R10, R199 (c)). -/
opaque Config.freeTurn : Nat → Turn

end Sys2Proof
end

