-- ==== Sys2Proof/Machine/State.lean ====
section
/-! DEFINITION. The state of the block and of its surroundings as plain data (R20 to R29, R35), the reset state
(R36), and the reasons a step can stop. -/

namespace Sys2Proof.Machine

/-- The values of ST (R22), and the six unused ones 0xA to 0xF (R37). -/
inductive ScanState where
  | reset
  | poll
  | idleWait
  | settle
  | drain
  | classify
  | flush
  | dispatch
  | fault
  | exited
  | unused (k : Fin 6)
  deriving DecidableEq, Repr

/-- A Frame record (R80). -/
structure Frame where
  command : Byte
  length : Byte
  payload : List Byte
  checksum : Half
  deriving DecidableEq, Repr

/-- What DECODE answers (R102). -/
inductive Verdict where
  | frame (f : Frame)
  | incomplete
  | unrecognized
  deriving DecidableEq, Repr

/-- The values of CRC_STATUS (R25), which are those of the response's crc field (R82). -/
inductive CrcStatus where
  | valid
  | invalid
  | short
  | none
  deriving DecidableEq, Repr

/-- The values of FAULT_CAUSE (R26). -/
inductive FaultCause where
  | none
  | query
  | drain
  | flush
  deriving DecidableEq, Repr

/-- A suspension timer: it holds no value a rule reads, only whether it has expired (R35 (c), R204). -/
inductive Timer where
  | stopped
  | running
  | expired
  deriving DecidableEq, Repr

/-- The status codes of a response (R190). -/
inductive Status where
  | ok
  | payloadTooLarge
  | incomplete
  | unrecognized
  | badOp
  | ignored
  deriving DecidableEq, Repr

/-- A response: a header word and the data bytes that follow it (R82). -/
structure Response where
  header : HeaderWord
  data : List Byte
  deriving DecidableEq, Repr

/-- Why the read loop ended (R198). -/
inductive ExitReason where
  | closed
  | emptyDrain
  | cancelled
  deriving DecidableEq, Repr

/-- The one-step events (R198). -/
inductive Event where
  | disconnect (cause : FaultCause)
  | loopExit (reason : ExitReason)
  deriving DecidableEq, Repr

/-- The state. The first eight fields are the block's own (R20, R35 (c)), `params` its static configuration (R29), the
next five the surroundings that it observes or feeds (R35, R56, R198), then its output ports, then the model's own
list of turns. -/
structure State where
  /-- ST (R22). -/
  st : ScanState
  /-- CHUNK (R23). -/
  chunk : List Byte
  /-- RES (R24); `none` is the value NONE. -/
  res : Option Verdict
  /-- CRC_STATUS (R25). -/
  crcStatus : CrcStatus
  /-- FAULT_CAUSE (R26). -/
  faultCause : FaultCause
  /-- RECONNECT_REQ (R28). -/
  reconnectReq : Bool
  /-- The idle timer (R204). -/
  idleTimer : Timer
  /-- The settle timer (R204). -/
  settleTimer : Timer
  /-- The parameters of R4 (R29). -/
  params : Params
  /-- The transport's open flag (R35 (b)). -/
  txOpen : Bool
  /-- RXBUF (R54). -/
  rxbuf : List Byte
  /-- The bytes that callers have written to the transport, in order (R56). -/
  wire : List Byte
  /-- dispatch_done has been asserted for the dispatch in progress (R35 (d), R156). -/
  dispatchDone : Bool
  /-- reconnect_done has been asserted for the reconnect in progress (R197). -/
  reconnectDone : Bool
  /-- The response given in the last step, if it served a request (R82). -/
  response : Option Response
  /-- The event raised in the last step, if it raised one (R198). -/
  event : Option Event
  /-- The model's own: the turns the agents take next, in this order (log 1). -/
  turns : List Turn
  /-- The model's own: how many free turns have been drawn (log 1). -/
  drawn : Nat
  deriving DecidableEq, Repr

/-- The faults of a step. -/
inductive Fault where
  /-- ST holds one of 0xA to 0xF (R37): raised by the scanner's step and by START and CANCEL, the operations that
  read ST. Safe: the machine stops where the spec defines nothing. -/
  | badState
  deriving DecidableEq, Repr

/-- The refusals of a step. -/
inductive Refusal where
  /-- No meaning for the instruction yet: raised by no arm of exec now. Safe: the machine stops. -/
  | notModelled (mnemonic : String)
  /-- A CALLER's turn whose data bytes are not the `count` bytes its header announces: it is no request of R78.
  Raised by the step. Safe: the machine stops. -/
  | malformedRequest (count given : Nat)
  /-- A Frame record that is not well formed is offered to FRAME_OUT (R81, I11). Raised by the scanner's flush and
  dispatch steps, in states that no run reaches. Safe: the machine stops. -/
  | malformedFrame
  /-- The parameters would change while the block runs (R29, I12). Raised by the OWNER's turn. Safe: the machine
  stops. -/
  | parameterChange
  deriving DecidableEq, Repr

/-- The state after reset: the registers as R36 gives them, the default parameters of R4, the transport closed and
RXBUF empty (95_test_vectors.md section 7), and no turn listed. -/
def State.reset : State where
  st := .reset
  chunk := []
  res := none
  crcStatus := .none
  faultCause := .none
  reconnectReq := false
  idleTimer := .stopped
  settleTimer := .stopped
  params := Params.defaults
  txOpen := false
  rxbuf := []
  wire := []
  dispatchDone := false
  reconnectDone := false
  response := none
  event := none
  turns := []
  drawn := 0

end Sys2Proof.Machine
end

