-- ==== Sys2Proof/Machine/Codes.lean ====
section
/-! DEFINITION. The numeric encodings of the registers (R22, R25, R26) and of the status codes (R190), and the
layout of a response header (R82). -/

namespace Sys2Proof.Machine

/-- The 4-bit encoding of ST (R22, R37). -/
def ScanState.code : ScanState → BitVec 4
  | .reset => 0x0#4
  | .poll => 0x1#4
  | .idleWait => 0x2#4
  | .settle => 0x3#4
  | .drain => 0x4#4
  | .classify => 0x5#4
  | .flush => 0x6#4
  | .dispatch => 0x7#4
  | .fault => 0x8#4
  | .exited => 0x9#4
  | .unused k => BitVec.ofNat 4 (10 + k.val)

/-- The value of ST that a 4-bit code stands for (R22, R37). -/
def ScanState.ofCode (c : BitVec 4) : ScanState :=
  match c.toNat with
  | 0 => .reset
  | 1 => .poll
  | 2 => .idleWait
  | 3 => .settle
  | 4 => .drain
  | 5 => .classify
  | 6 => .flush
  | 7 => .dispatch
  | 8 => .fault
  | 9 => .exited
  | 10 => .unused 0
  | 11 => .unused 1
  | 12 => .unused 2
  | 13 => .unused 3
  | 14 => .unused 4
  | _ => .unused 5

/-- The 2-bit encoding of CRC_STATUS (R25) and of the response's crc field (R82). -/
def CrcStatus.code : CrcStatus → BitVec 2
  | .valid => 0b00#2
  | .invalid => 0b01#2
  | .short => 0b10#2
  | .none => 0b11#2

/-- The 2-bit encoding of FAULT_CAUSE (R26). -/
def FaultCause.code : FaultCause → BitVec 2
  | .none => 0b00#2
  | .query => 0b01#2
  | .drain => 0b10#2
  | .flush => 0b11#2

/-- The 8-bit status codes (R190). -/
def Status.code : Status → BitVec 8
  | .ok => 0x00#8
  | .payloadTooLarge => 0x01#8
  | .incomplete => 0x02#8
  | .unrecognized => 0x03#8
  | .badOp => 0x04#8
  | .ignored => 0x05#8

/-- A response with its header word: rcount, six zero bits, crc and status (R82). -/
def Response.make (status : Status) (crc : CrcStatus) (data : List Byte) : Response where
  header := BitVec.ofNat 16 data.length ++ 0#6 ++ crc.code ++ status.code
  data := data

/-- A response of an operation other than VALIDATE that returns no data bytes (R82). -/
def Response.bare (status : Status) : Response := Response.make status .none []

/-- Bits [7:0] of a response header. -/
def Response.statusField (r : Response) : BitVec 8 := r.header.extractLsb' 0 8

/-- Bits [9:8] of a response header. -/
def Response.crcField (r : Response) : BitVec 2 := r.header.extractLsb' 8 2

/-- Bits [15:10] of a response header. -/
def Response.zeroField (r : Response) : BitVec 6 := r.header.extractLsb' 10 6

/-- Bits [31:16] of a response header. -/
def Response.rcountField (r : Response) : BitVec 16 := r.header.extractLsb' 16 16

end Sys2Proof.Machine
end

