-- ==== Sys2Proof/Machine/Operands.lean ====
section
/-! DEFINITION. The pieces operands and results are put together from: the two bytes of a checksum (R8, R50), reads of
a byte string (R7, R9), and the fixed sizes of R4. -/

namespace Sys2Proof.Machine

/-- MAX_PAYLOAD (R4). -/
def maxPayload : Nat := 255

/-- PAYLOAD_OFFSET (R4, R76). -/
def payloadOffset : Nat := 2

/-- `lo8(v) = v[7:0]` (R8). -/
def lo8 (v : Half) : Byte := v.extractLsb' 0 8

/-- `hi8(v) = v[15:8]` (R8). -/
def hi8 (v : Half) : Byte := v.extractLsb' 8 8

/-- `u16(lo, hi) = hi * 256 + lo` (R8). -/
def u16 (lo hi : Byte) : Half := hi ++ lo

/-- The two checksum bytes in wire order, the low byte first (R50). -/
def checksumBytes (k : Half) : List Byte := [lo8 k, hi8 k]

/-- `MemRead(addr, n)`: the bytes `c[addr .. addr+n)` of a byte string (R9). Every caller checks the length first. -/
def memRead (c : List Byte) (addr n : Nat) : List Byte := (c.drop addr).take n

/-- The payload length that byte 1 of a byte string states (R71); `none` where byte 1 is not there. A wire frame that
starts the string occupies `4 + L` bytes of it (R73). -/
def wirePayloadLen : List Byte → Option Nat
  | _ :: len :: _ => some len.toNat
  | _ => none

end Sys2Proof.Machine
end

