-- ==== Sys2Proof/Machine/Flags.lean ====
section
/-! DEFINITION. The block's status flags (R32): the checksum verdict, FRAME_OUT, and the flush policy. -/

namespace Sys2Proof.Machine

/-- The checksum-16 validator VALIDATE (R103), for any checksum function. -/
def validateChunk (ck : List Byte → Half) (c : List Byte) : CrcStatus :=
  match wirePayloadLen c with
  | none => .short
  | some len =>
    if c.length < 4 + len then .short
    else if memRead c (2 + len) 2 = checksumBytes (ck (memRead c 0 (2 + len))) then .valid
    else .invalid

/-- A Frame record is well formed when its payload has the length it states (R81); a length field is a byte, so it is
at most 255. -/
def Frame.wf (f : Frame) : Bool := decide (f.payload.length = f.length.toNat)

/-- FRAME_OUT.valid (R27). -/
def State.frameOutValid (s : State) : Bool := decide (s.st = .dispatch)

/-- FRAME_OUT: the frame presented and the checksum verdict beside it, `none` when FRAME_OUT is not valid (R27). -/
def State.frameOut (s : State) : Option (Frame × CrcStatus) :=
  match s.st, s.res with
  | .dispatch, some (.frame f) => some (f, s.crcStatus)
  | _, _ => none

/-- RES holds a Frame record that is not well formed, so it may not be presented (R81, I11). -/
def State.offersMalformedFrame (s : State) : Bool :=
  match s.res with
  | some (.frame f) => !f.wf
  | _ => false

/-- The flush policy NEEDS_FLUSH (R154). -/
def needsFlush (p : Params) : Verdict → Bool
  | .frame _ => true
  | .incomplete => p.flushOnIncomplete
  | .unrecognized => p.flushOnUnrecognized

end Sys2Proof.Machine
end

