-- ==== Sys2Proof/Machine/Ops.lean ====
section
/-! DEFINITION. The operations that meanings and scanner steps share: the transport calls, answering a request,
emptying the chunk, leaving the loop, the transport fault and its return, reset. -/

namespace Sys2Proof.Machine

/-! ## Transport calls (R53, R54, R55) -/

/-- `Tx.bytes_available()`: the number of bytes RXBUF holds, or Err (`none`) after which RXBUF holds what the draw
says. -/
def txBytesAvailable (tx : TxDraw) (s : State) : Option Nat × State :=
  match tx with
  | .ok => (some s.rxbuf.length, s)
  | .err left => (none, { s with rxbuf := left })

/-- `Tx.read_available()`: all that RXBUF holds, and RXBUF is empty then; or Err (`none`) after which RXBUF holds what
the draw says. -/
def txReadAvailable (tx : TxDraw) (s : State) : Option (List Byte) × State :=
  match tx with
  | .ok => (some s.rxbuf, { s with rxbuf := [] })
  | .err left => (none, { s with rxbuf := left })

/-- `Tx.close()`. -/
def txClose (s : State) : State := { s with txOpen := false }

/-! ## Registers of the block -/

/-- Hand a response to the caller (R82). -/
def respond (r : Response) (s : State) : State := { s with response := some r }

/-- Empty CHUNK, and RES and CRC_STATUS with it (R23, R24, R25). -/
def dropChunk (s : State) : State := { s with chunk := [], res := none, crcStatus := .none }

/-- The bytes of a drain that CHUNK keeps: up to CHUNK_CAPACITY (R152). -/
def capChunk (p : Params) (bytes : List Byte) : List Byte :=
  match p.chunkCapacity with
  | none => bytes
  | some n => bytes.take n

/-- The read loop returns: ST becomes S_EXITED and LOOP_EXIT is raised (R144, R151, R198). -/
def exitLoop (reason : ExitReason) (s : State) : State :=
  { s with st := .exited, event := some (.loopExit reason) }

/-- What CANCEL does in every state but S_EXITED (R142); it stops both timers (R204), and a handshake already
asserted counts no more. -/
def tearDown (s : State) : State :=
  exitLoop .cancelled
    { dropChunk s with
      reconnectReq := false, idleTimer := .stopped, settleTimer := .stopped,
      dispatchDone := false, reconnectDone := false }

/-- Fault entry: `raise TransportFault(cause)` (R196). -/
def raiseTransportFault (cause : FaultCause) (s : State) : State :=
  { txClose (dropChunk s) with
    faultCause := cause, event := some (.disconnect cause), reconnectReq := true, st := .fault }

/-- Fault return, when reconnect_done is asserted in S_FAULT (R197). -/
def faultReturn (s : State) : State :=
  { s with reconnectReq := false, reconnectDone := false, st := .poll }

/-- Reset of the block: every register at the value of R36, the timers stopped, a late handshake ignored (R220, R221).
The parameters, the transport and the turns to come are no registers of the block. -/
def applyReset (s : State) : State :=
  { s with
    st := .reset, chunk := [], res := none, crcStatus := .none, faultCause := .none, reconnectReq := false,
    idleTimer := .stopped, settleTimer := .stopped, dispatchDone := false, reconnectDone := false }

/-! ## Decoding a chunk (R102) -/

/-- The frame of a shape at the start of a chunk, or INCOMPLETE when the payload region is not all there (R102). -/
def extractShape (sh : Shape) (c : List Byte) : Verdict :=
  if c.length < payloadOffset + sh.payloadLen then .incomplete
  else .frame
    { command := sh.code
      length := BitVec.ofNat 8 sh.payloadLen
      payload := memRead c payloadOffset sh.payloadLen
      checksum := 0#16 }

/-- DECODE (R102): classify a chunk by its first byte and extract the payload of its shape. -/
def decodeChunk : List Byte → Verdict
  | [] => .incomplete
  | b0 :: rest =>
    match shapeOf b0 with
    | some sh => extractShape sh (b0 :: rest)
    | none => .unrecognized

/-- The end of the classify step (R153), once DECODE's verdict on CHUNK is known: RES and CRC_STATUS are written
together, and the flush policy chooses the next state. -/
def recordVerdict (v : Verdict) (s : State) : State :=
  let s := { s with res := some v, crcStatus := validateChunk Config.checksum16 s.chunk }
  if needsFlush s.params v then { s with st := .flush }
  else match v with
    | .frame _ => { s with st := .dispatch }
    | _ => { dropChunk s with st := .poll }

end Sys2Proof.Machine
end

