-- ==== Sys2Proof/Machine/Codec.lean ====
section
/-! DEFINITION. The codec unit: ENCODE, DECODE and VALIDATE (R101, R102, R103). -/

namespace Sys2Proof.Machine

/-- ENCODE (R101), for any checksum function: the wire frame, or PAYLOAD_TOO_LARGE. -/
def encodeFrame (ck : List Byte → Half) (cmd : Byte) (payload : List Byte) : Except Status (List Byte) :=
  if maxPayload < payload.length then .error .payloadTooLarge
  else
    let body := cmd :: BitVec.ofNat 8 payload.length :: payload
    .ok (body ++ checksumBytes (ck body))

/-- The response to ENCODE (R82, R101, R191). -/
def encodeResponse (ck : List Byte → Half) (cmd : Byte) (payload : List Byte) : Response :=
  match encodeFrame ck cmd payload with
  | .ok frame => Response.make .ok .none frame
  | .error status => Response.bare status

/-- The response to DECODE (R82, R192, R193): the frame's command, length and payload; its checksum field, always 0,
is not sent. -/
def decodeResponse (c : List Byte) : Response :=
  match decodeChunk c with
  | .frame f => Response.make .ok .none (f.command :: f.length :: f.payload)
  | .incomplete => Response.bare .incomplete
  | .unrecognized => Response.bare .unrecognized

/-- The response to VALIDATE (R82, R103): always OK, the verdict in the crc field. -/
def validateResponse (ck : List Byte → Half) (c : List Byte) : Response :=
  Response.make .ok (validateChunk ck c) []

/-- ENCODE (R101). -/
def execEncode (cmd : Byte) (payload : List Byte) (s : State) : Host.Outcome State Fault Refusal :=
  .next (respond (encodeResponse Config.checksum16 cmd payload) s)

/-- DECODE (R102, R108): it touches nothing but the response. -/
def execDecode (_cmd : Byte) (chunk : List Byte) (s : State) : Host.Outcome State Fault Refusal :=
  .next (respond (decodeResponse chunk) s)

/-- VALIDATE (R103). -/
def execValidate (_cmd : Byte) (chunk : List Byte) (s : State) : Host.Outcome State Fault Refusal :=
  .next (respond (validateResponse Config.checksum16 chunk) s)

end Sys2Proof.Machine
end

