-- ==== Sys2Proof/Machine/Control.lean ====
section
/-! DEFINITION. START and CANCEL (R141, R142). -/

namespace Sys2Proof.Machine

/-- START (R141): it starts the read loop, once. An unused ST faults (R37). -/
def execStart (_cmd : Byte) (s : State) : Host.Outcome State Fault Refusal :=
  match s.st with
  | .reset => .next (respond (Response.bare .ok) { s with st := .poll })
  | .unused _ => .fault .badState
  | _ => .next (respond (Response.bare .ignored) s)

/-- CANCEL (R142): it tears the loop down. An unused ST faults (R37). -/
def execCancel (_cmd : Byte) (s : State) : Host.Outcome State Fault Refusal :=
  match s.st with
  | .exited => .next (respond (Response.bare .ignored) s)
  | .unused _ => .fault .badState
  | _ => .next (respond (Response.bare .ok) (tearDown s))

end Sys2Proof.Machine
end

