-- ==== Sys2Proof/Machine/Reserved.lean ====
section
/-! DEFINITION. The illegal requests: BAD_OP, the data consumed and ignored, no register written (R83, R194). -/

namespace Sys2Proof.Machine

/-- The answer to an illegal request (R194). -/
def badOp (s : State) : Host.Outcome State Fault Refusal := .next (respond (Response.bare .badOp) s)

/-- Reserved op 0b101 (R83). -/
def execReservedOp5 (_rsv : BitVec 5) (_cmd : Byte) (_data : List Byte) (s : State) : Host.Outcome State Fault Refusal :=
  badOp s

/-- Reserved op 0b110 (R83). -/
def execReservedOp6 (_rsv : BitVec 5) (_cmd : Byte) (_data : List Byte) (s : State) : Host.Outcome State Fault Refusal :=
  badOp s

/-- Reserved op 0b111 (R83). -/
def execReservedOp7 (_rsv : BitVec 5) (_cmd : Byte) (_data : List Byte) (s : State) : Host.Outcome State Fault Refusal :=
  badOp s

/-- Any other illegal request (R83). -/
def execIllegalRequest (_op : BitVec 3) (_rsv : BitVec 5) (_cmd : Byte) (_data : List Byte) (s : State) :
    Host.Outcome State Fault Refusal :=
  badOp s

end Sys2Proof.Machine
end

