-- ==== Sys2Proof/Machine/Shapes.lean ====
section
/-! DEFINITION. The byte-0 rows: what the scanner's classify step does with the chunk it holds (R153), for each
shape that byte 0 of the chunk can select (R74, R75, R77). -/

namespace Sys2Proof.Machine

/-- CHUNK starts with 0x3F: classified as a key/status frame of one payload byte (R74, R153). -/
def execKeyStatusShape (s : State) : Host.Outcome State Fault Refusal :=
  .next (recordVerdict (extractShape .keyStatus s.chunk) s)

/-- CHUNK starts with 0x41: classified as a broadcast frame of 16 payload bytes (R75, R153). -/
def execBroadcastShape (s : State) : Host.Outcome State Fault Refusal :=
  .next (recordVerdict (extractShape .broadcast s.chunk) s)

/-- CHUNK starts with any other byte: unrecognised (R77, R153, R193). -/
def execUnrecognized (_b0 : Byte) (s : State) : Host.Outcome State Fault Refusal :=
  .next (recordVerdict .unrecognized s)

end Sys2Proof.Machine
end

