-- ==== Sys2Proof/Machine/Dispatch.lean ====
section
/-! DEFINITION. The meaning of every instruction, one arm a row of the opcode table. -/

namespace Sys2Proof.Machine

def exec (i : Instr) (s : State) : Host.Outcome State Fault Refusal :=
  match i with
  | .encode cmd payload => Sys2Proof.Machine.execEncode cmd payload s
  | .decode cmd chunk => Sys2Proof.Machine.execDecode cmd chunk s
  | .validate cmd chunk => Sys2Proof.Machine.execValidate cmd chunk s
  | .start cmd => Sys2Proof.Machine.execStart cmd s
  | .cancel cmd => Sys2Proof.Machine.execCancel cmd s
  | .reservedOp5 rsv cmd data => Sys2Proof.Machine.execReservedOp5 rsv cmd data s
  | .reservedOp6 rsv cmd data => Sys2Proof.Machine.execReservedOp6 rsv cmd data s
  | .reservedOp7 rsv cmd data => Sys2Proof.Machine.execReservedOp7 rsv cmd data s
  | .illegalRequest op rsv cmd data => Sys2Proof.Machine.execIllegalRequest op rsv cmd data s
  | .keyStatusShape => Sys2Proof.Machine.execKeyStatusShape s
  | .broadcastShape => Sys2Proof.Machine.execBroadcastShape s
  | .unrecognized b0 => Sys2Proof.Machine.execUnrecognized b0 s

end Sys2Proof.Machine
end

