-- ==== Sys2Proof/Machine/Scanner.lean ====
section
/-! DEFINITION. The scanner's steps, one function for each state of R22 (R143 to R158), and the running of a decoded
instruction. A step that waits for an input it does not have leaves the state as it is (R140). -/

namespace Sys2Proof.Machine

/-- Decode what is presented to the decoder and run the instruction. -/
def runEncoded (w : Encoded) (s : State) : Host.Outcome State Fault Refusal :=
  match decode w with
  | .ok i => exec i s
  | .error (.dataLength count given) => .refused (.malformedRequest count given)

/-- S_POLL (R144 to R147). -/
def pollStep (tx : TxDraw) (s : State) : State :=
  if s.txOpen then
    match txBytesAvailable tx s with
    | (none, s) => raiseTransportFault .query s
    | (some 0, s) => { s with st := .idleWait, idleTimer := .running }
    | (some _, s) => { s with st := .settle, settleTimer := .running }
  else exitLoop .closed s

/-- S_IDLE_WAIT (R148). -/
def idleWaitStep (s : State) : State :=
  if s.idleTimer = .expired then { s with st := .poll, idleTimer := .stopped } else s

/-- S_SETTLE (R149). -/
def settleStep (s : State) : State :=
  if s.settleTimer = .expired then { s with st := .drain, settleTimer := .stopped } else s

/-- S_DRAIN (R150 to R152). -/
def drainStep (tx : TxDraw) (s : State) : State :=
  match txReadAvailable tx s with
  | (none, s) => raiseTransportFault .drain s
  | (some [], s) => exitLoop .emptyDrain s
  | (some bytes, s) => { s with chunk := capChunk s.params bytes, st := .classify }

/-- S_CLASSIFY (R153): byte 0 of CHUNK selects the row of the opcode table that is run. An empty CHUNK, which no run
brings here, has no byte 0 and is INCOMPLETE (R102). -/
def classifyStep (s : State) : Host.Outcome State Fault Refusal :=
  match s.chunk with
  | [] => .next (recordVerdict .incomplete s)
  | b0 :: _ => runEncoded (.byte0 b0) s

/-- S_FLUSH (R155). A Frame record that is not well formed is not presented (R81). -/
def flushStep (tx : TxDraw) (s : State) : Host.Outcome State Fault Refusal :=
  match txReadAvailable tx s with
  | (none, s) => .next (raiseTransportFault .flush s)
  | (some _, s) =>
    if s.offersMalformedFrame then .refused .malformedFrame
    else match s.res with
      | some (.frame _) => .next { s with st := .dispatch }
      | _ => .next { dropChunk s with st := .poll }

/-- S_DISPATCH (R156). A Frame record that is not well formed is not presented (R81). -/
def dispatchStep (s : State) : Host.Outcome State Fault Refusal :=
  if s.offersMalformedFrame then .refused .malformedFrame
  else if s.dispatchDone then .next { dropChunk s with st := .poll, dispatchDone := false }
  else .next s

/-- S_FAULT (R157, R197). -/
def faultStep (s : State) : State :=
  if s.reconnectDone then faultReturn s else s

/-- One step of the scanner, chosen by ST (R140). S_RESET and S_EXITED have no step (R143, R158), an unused ST faults
(R37). -/
def scannerStep (tx : TxDraw) (s : State) : Host.Outcome State Fault Refusal :=
  match s.st with
  | .reset => .next s
  | .poll => .next (pollStep tx s)
  | .idleWait => .next (idleWaitStep s)
  | .settle => .next (settleStep s)
  | .drain => .next (drainStep tx s)
  | .classify => classifyStep s
  | .flush => flushStep tx s
  | .dispatch => dispatchStep s
  | .fault => .next (faultStep s)
  | .exited => .next s
  | .unused _ => .fault .badState

end Sys2Proof.Machine
end

