-- ==== Sys2Proof/Machine/Turns.lean ====
section
/-! DEFINITION. What each agent's turn does to the state (R10), and which turn is next (R199 (c)). -/

namespace Sys2Proof.Machine

/-- The turn the next step takes: the first one listed, or a free one. -/
def State.nextTurn (s : State) : Turn :=
  match s.turns with
  | t :: _ => t
  | [] => Config.freeTurn s.drawn

/-- The state in which the next turn is taken: that turn is used up, and the outputs of the step before are gone, for
no event is pending after its step (R198). -/
def State.begin (s : State) : State :=
  match s.turns with
  | _ :: ts => { s with turns := ts, response := none, event := none }
  | [] => { s with drawn := s.drawn + 1, response := none, event := none }

/-- dispatch_done is asserted. It counts for the dispatch in progress, and is ignored when there is none (R142, R221). -/
def assertDispatchDone (s : State) : State :=
  if s.st = .dispatch then { s with dispatchDone := true } else s

/-- reconnect_done is asserted. It counts in S_FAULT alone (R197, R221). -/
def assertReconnectDone (s : State) : State :=
  if s.st = .fault then { s with reconnectDone := true } else s

/-- A timer that runs expires (R204). -/
def Timer.expire : Timer → Timer
  | .running => .expired
  | .stopped => .stopped
  | .expired => .expired

/-- One turn of one agent. -/
def runTurn (t : Turn) (s : State) : Host.Outcome State Fault Refusal :=
  match t with
  | .caller header data => runEncoded (.request header data) s
  | .callerWrites bytes lands => .next (if lands then { s with wire := s.wire ++ bytes } else s)
  | .scanner tx => scannerStep tx s
  | .transportReceives bytes => .next { s with rxbuf := s.rxbuf ++ bytes }
  | .transportDrops => .next { s with rxbuf := [] }
  | .transportCloses => .next (txClose s)
  | .supervisorOpens => .next { s with txOpen := true }
  | .supervisorDone => .next (assertReconnectDone s)
  | .dispatcherDone => .next (assertDispatchDone s)
  | .idleTimerExpires => .next { s with idleTimer := s.idleTimer.expire }
  | .settleTimerExpires => .next { s with settleTimer := s.settleTimer.expire }
  | .ownerResets => .next (applyReset s)
  | .ownerSetsParams _ => .refused .parameterChange

end Sys2Proof.Machine
end

