-- ==== Sys2Proof/Machine/Step.lean ====
section
/-! DEFINITION. One step of the machine: the next turn, taken whole (R52, R140); and where a table row's word is put so
that the next step runs it. -/

namespace Sys2Proof.Machine

/-- One step. -/
def step (s : State) : Host.Outcome State Fault Refusal := runTurn s.nextTurn s.begin

/-- `s` with a table row's instruction placed so that the next step runs it. A request is the next turn, a CALLER's.
Byte 0 of a chunk is held in CHUNK, followed by zeros up to the longest frame of a shape (20 bytes, R75), with ST in
S_CLASSIFY and the SCANNER's turn next (log 9). -/
def State.withFetchWord (s : State) (nbits w : Nat) : State :=
  match tableWord nbits w with
  | .request header data => { s with turns := .caller header data :: s.turns }
  | .byte0 b0 => { s with st := .classify, chunk := b0 :: List.replicate 19 0#8, turns := .scanner .ok :: s.turns }

end Sys2Proof.Machine
end

