-- ==== Sys2Proof/Safety.lean ====
section
/-! DEFINITION. What claims about runs are said in: the invariant of the block, the requests a caller's turn makes,
and the rows of the transition summary R160. -/

namespace Sys2Proof.Machine

/-- What CHUNK, RES and CRC_STATUS hold in each state of the scanner (R23, R24, R25): a chunk is held from the drain
that stored it until the scanner leaves S_CLASSIFY, S_FLUSH or S_DISPATCH, and RES and CRC_STATUS are its verdicts from
the classify step on. An unused ST is no legal state (R37). -/
def State.ChunkHeld (s : State) : Prop :=
  match s.st with
  | .classify => s.chunk ≠ [] ∧ s.res = none ∧ s.crcStatus = .none
  | .flush =>
    s.chunk ≠ [] ∧ s.res = some (decodeChunk s.chunk) ∧
      s.crcStatus = validateChunk Config.checksum16 s.chunk ∧ needsFlush s.params (decodeChunk s.chunk) = true
  | .dispatch =>
    s.chunk ≠ [] ∧ (∃ f, decodeChunk s.chunk = .frame f) ∧ s.res = some (decodeChunk s.chunk) ∧
      s.crcStatus = validateChunk Config.checksum16 s.chunk
  | .unused _ => False
  | _ => s.chunk = [] ∧ s.res = none ∧ s.crcStatus = .none

/-- The invariant of the block. -/
structure State.Inv (s : State) : Prop where
  /-- CHUNK, RES and CRC_STATUS fit ST (R23, R24, R25), and ST is one of the named values (R37). -/
  chunkHeld : s.ChunkHeld
  /-- CHUNK_CAPACITY is unbounded or at least 259 (R4, D32). -/
  capacityWide : ∀ n, s.params.chunkCapacity = some n → 259 ≤ n
  /-- CHUNK is no longer than CHUNK_CAPACITY (R23). -/
  chunkFits : ∀ n, s.params.chunkCapacity = some n → s.chunk.length ≤ n
  /-- RECONNECT_REQ is a level held in S_FAULT (R28, R198). -/
  reconnectLevel : s.reconnectReq = true ↔ s.st = .fault
  /-- In S_FAULT the cause of the fault is recorded (R196). -/
  causeRecorded : s.st = .fault → s.faultCause ≠ .none
  /-- The idle timer runs, or has expired, in S_IDLE_WAIT alone (R204). -/
  idleTimerOn : s.idleTimer ≠ .stopped ↔ s.st = .idleWait
  /-- The settle timer runs, or has expired, in S_SETTLE alone (R204). -/
  settleTimerOn : s.settleTimer ≠ .stopped ↔ s.st = .settle
  /-- dispatch_done counts for a dispatch in progress alone (R156). -/
  dispatchDoneOn : s.dispatchDone = true → s.st = .dispatch
  /-- reconnect_done counts in S_FAULT alone (R197). -/
  reconnectDoneOn : s.reconnectDone = true → s.st = .fault

/-- The next turn is a CALLER's START (R141). -/
def State.StartNext (s : State) : Prop :=
  ∃ header data cmd, s.nextTurn = .caller header data ∧ decode (.request header data) = .ok (.start cmd)

/-- The next turn is a CALLER's CANCEL (R142). -/
def State.CancelNext (s : State) : Prop :=
  ∃ header data cmd, s.nextTurn = .caller header data ∧ decode (.request header data) = .ok (.cancel cmd)

/-- The next turn is the SCANNER's and its transport call, if it makes one, succeeds. -/
def State.ScannerOk (s : State) : Prop := s.nextTurn = .scanner .ok

/-- The next turn is the SCANNER's and its transport call, if it makes one, answers Err. -/
def State.ScannerErr (s : State) : Prop := ∃ left, s.nextTurn = .scanner (.err left)

/-- The next turn is the SCANNER's. -/
def State.ScannerNext (s : State) : Prop := ∃ tx, s.nextTurn = .scanner tx

/-- The rows of the transition summary R160: from state `s`, under the row's condition, ST becomes the row's value. -/
inductive TransitionRow (s : State) : ScanState → Prop where
  | start : s.st = .reset → s.StartNext → TransitionRow s .poll
  | cancel : s.st ≠ .exited → s.CancelNext → TransitionRow s .exited
  | pollClosed : s.st = .poll → s.ScannerNext → s.txOpen = false → TransitionRow s .exited
  | pollErr : s.st = .poll → s.ScannerErr → s.txOpen = true → TransitionRow s .fault
  | pollNone : s.st = .poll → s.ScannerOk → s.txOpen = true → s.rxbuf.length = 0 → TransitionRow s .idleWait
  | pollSome : s.st = .poll → s.ScannerOk → s.txOpen = true → 0 < s.rxbuf.length → TransitionRow s .settle
  | idleExpired : s.st = .idleWait → s.ScannerNext → s.idleTimer = .expired → TransitionRow s .poll
  | settleExpired : s.st = .settle → s.ScannerNext → s.settleTimer = .expired → TransitionRow s .drain
  | drainErr : s.st = .drain → s.ScannerErr → TransitionRow s .fault
  | drainEmpty : s.st = .drain → s.ScannerOk → s.rxbuf = [] → TransitionRow s .exited
  | drainBytes : s.st = .drain → s.ScannerOk → s.rxbuf ≠ [] → TransitionRow s .classify
  | classifyFlush : s.st = .classify → s.ScannerNext → needsFlush s.params (decodeChunk s.chunk) = true →
      TransitionRow s .flush
  /-- The row that R160 itself marks as not reachable: a frame is always flushed (R154). -/
  | classifyFrame (f : Frame) : s.st = .classify → s.ScannerNext → decodeChunk s.chunk = .frame f →
      needsFlush s.params (decodeChunk s.chunk) = false → TransitionRow s .dispatch
  | classifyDrop : s.st = .classify → s.ScannerNext → (∀ f, decodeChunk s.chunk ≠ .frame f) →
      needsFlush s.params (decodeChunk s.chunk) = false → TransitionRow s .poll
  | flushErr : s.st = .flush → s.ScannerErr → TransitionRow s .fault
  | flushFrame (f : Frame) : s.st = .flush → s.ScannerOk → s.res = some (.frame f) → TransitionRow s .dispatch
  | flushDrop : s.st = .flush → s.ScannerOk → (∀ f, s.res ≠ some (.frame f)) → TransitionRow s .poll
  | dispatchDone : s.st = .dispatch → s.ScannerNext → s.dispatchDone = true → TransitionRow s .poll
  | reconnectDone : s.st = .fault → s.ScannerNext → s.reconnectDone = true → TransitionRow s .poll
  | ownerReset : s.nextTurn = .ownerResets → TransitionRow s .reset

end Sys2Proof.Machine
end

