-- ==== Sys2Proof/Certificates/Slice0/Obligations.lean ====
section
/-! DEFINITION. The statements about the block, for the provers. Each docstring names the rule of spec/ it says. -/

open Sys2Proof Sys2Proof.Machine

/-! ## Encoding -/

/-- Decode and encode agree on every well-formed instruction (R78, R79, R83, R84, R76). -/
def Obligations.DecodeOfEncode : Prop :=
  ∀ i : Instr, i.wellFormed = true → decode (encode i) = .ok i

/-- What the decoder reads is well formed, and it is read from no other words (R78, R79, R83). -/
def Obligations.EncodeOfDecode : Prop :=
  ∀ (w : Encoded) (i : Instr), decode w = .ok i → i.wellFormed = true ∧ encode i = w

/-- Every request word decodes as the first row of the opcode table that it matches, by the table's own masks and
patterns; the catch-all row comes last (R79, R83). Rows: mask, pattern, and whether an instruction is the row's. -/
def Obligations.RequestsDecodeByFirstTableRow : Prop :=
  ∀ (h : HeaderWord) (data : List Byte), data.length = (hdrCount h).toNat →
    decode (.request h data) = .ok (
      if h &&& 0x000000FF#32 = 0x00000000#32 then .encode (hdrCmd h) data
      else if h &&& 0x000000FF#32 = 0x00000001#32 then .decode (hdrCmd h) data
      else if h &&& 0x000000FF#32 = 0x00000002#32 then .validate (hdrCmd h) data
      else if h &&& 0xFFFF00FF#32 = 0x00000003#32 then .start (hdrCmd h)
      else if h &&& 0xFFFF00FF#32 = 0x00000004#32 then .cancel (hdrCmd h)
      else if h &&& 0x00000007#32 = 0x00000005#32 then .reservedOp5 (hdrRsv h) (hdrCmd h) data
      else if h &&& 0x00000007#32 = 0x00000006#32 then .reservedOp6 (hdrRsv h) (hdrCmd h) data
      else if h &&& 0x00000007#32 = 0x00000007#32 then .reservedOp7 (hdrRsv h) (hdrCmd h) data
      else .illegalRequest (hdrOp h) (hdrRsv h) (hdrCmd h) data)

/-- A few words written out from the tables of R79 and R76 decode to the instructions they stand for. -/
def Obligations.SampleWordsDecode : Prop :=
  decode (.request 0x00013F00#32 [0x09#8]) = .ok (.encode 0x3F#8 [0x09#8]) ∧
  decode (.request 0x00020001#32 [0x3F#8, 0x01#8]) = .ok (.decode 0x00#8 [0x3F#8, 0x01#8]) ∧
  decode (.request 0x00003F02#32 []) = .ok (.validate 0x3F#8 []) ∧
  decode (.request 0x0000FF03#32 []) = .ok (.start 0xFF#8) ∧
  decode (.request 0x00000004#32 []) = .ok (.cancel 0x00#8) ∧
  decode (.request 0x00000005#32 []) = .ok (.reservedOp5 0#5 0x00#8 []) ∧
  decode (.request 0x00013F08#32 [0x09#8]) = .ok (.illegalRequest 0#3 1#5 0x3F#8 [0x09#8]) ∧
  decode (.request 0x00010003#32 [0x00#8]) = .ok (.illegalRequest 3#3 0#5 0x00#8 [0x00#8]) ∧
  decode (.byte0 0x3F#8) = .ok .keyStatusShape ∧
  decode (.byte0 0x41#8) = .ok .broadcastShape ∧
  decode (.byte0 0x40#8) = .ok (.unrecognized 0x40#8)

/-- ST's encodings (R22): the ten named values have the table's codes, the six unused ones 0xA to 0xF, and every code
of 4 bits stands for the value it encodes. -/
def Obligations.ScanStateCodes : Prop :=
  ScanState.code .reset = 0x0#4 ∧ ScanState.code .poll = 0x1#4 ∧ ScanState.code .idleWait = 0x2#4 ∧
  ScanState.code .settle = 0x3#4 ∧ ScanState.code .drain = 0x4#4 ∧ ScanState.code .classify = 0x5#4 ∧
  ScanState.code .flush = 0x6#4 ∧ ScanState.code .dispatch = 0x7#4 ∧ ScanState.code .fault = 0x8#4 ∧
  ScanState.code .exited = 0x9#4 ∧
  (∀ k : Fin 6, (ScanState.unused k).code.toNat = 10 + k.val) ∧
  (∀ c : BitVec 4, (ScanState.ofCode c).code = c) ∧ (∀ st : ScanState, ScanState.ofCode st.code = st)

/-- The response to every request is well laid out (R82): its zero field is 0, rcount counts its data bytes, its
status is one of the six codes of R190; crc is NONE for every operation but VALIDATE; data bytes are returned by ENCODE
with status OK (the wire frame) and by DECODE with status OK (command, length, payload), and by nothing else. -/
def Obligations.ResponsesFollowFormat : Prop :=
  ∀ (h : HeaderWord) (data : List Byte) (i : Instr) (s t : State),
    decode (.request h data) = .ok i → exec i s = .next t →
    ∃ r, t.response = some r ∧ r.zeroField = 0#6 ∧ r.rcountField.toNat = r.data.length ∧ r.statusField.toNat ≤ 5 ∧
      match i with
      | .encode cmd p =>
        r.crcField = 0b11#2 ∧ (r.statusField = 0x00#8 → encodeFrame Config.checksum16 cmd p = .ok r.data) ∧
          (r.statusField ≠ 0x00#8 → r.data = [])
      | .decode _ c =>
        r.crcField = 0b11#2 ∧
          (r.statusField = 0x00#8 → ∃ f, decodeChunk c = .frame f ∧ r.data = f.command :: f.length :: f.payload) ∧
          (r.statusField ≠ 0x00#8 → r.data = [])
      | .validate _ c =>
        r.statusField = 0x00#8 ∧ r.crcField = (validateChunk Config.checksum16 c).code ∧ r.data = []
      | _ => r.crcField = 0b11#2 ∧ r.data = []

/-! ## The codec unit -/

/-- ENCODE (R101) completes: a payload of at most 255 bytes gives OK and the wire frame, header, payload, then the
checksum of both with its low byte first; a longer one gives PAYLOAD_TOO_LARGE and no bytes. Nothing else changes. -/
def Obligations.EncodeAnswers : Prop :=
  ∀ (cmd : Byte) (p : List Byte) (s : State),
    (p.length ≤ 255 →
      exec (.encode cmd p) s = .next { s with
        response := some
          { header := BitVec.ofNat 16 (4 + p.length) ++ 0#6 ++ 0b11#2 ++ 0x00#8
            data := cmd :: BitVec.ofNat 8 p.length :: (p ++
              [(Config.checksum16 (cmd :: BitVec.ofNat 8 p.length :: p)).extractLsb' 0 8,
               (Config.checksum16 (cmd :: BitVec.ofNat 8 p.length :: p)).extractLsb' 8 8]) } }) ∧
    (255 < p.length →
      exec (.encode cmd p) s = .next { s with response := some { header := 0x00000301#32, data := [] } })

/-- The shape of ENCODE's output, and that it is injective (R104), for every checksum function. -/
def Obligations.EncodeOutputShape : Prop :=
  ∀ (ck : List Byte → Half) (cmd : Byte) (p : List Byte), p.length ≤ 255 →
    (∃ e, encodeFrame ck cmd p = .ok e ∧ e.length = 4 + p.length ∧ e[0]? = some cmd ∧
      e[1]? = some (BitVec.ofNat 8 p.length) ∧ memRead e 2 p.length = p) ∧
    (∀ (cmd' : Byte) (p' : List Byte), p'.length ≤ 255 → encodeFrame ck cmd p = encodeFrame ck cmd' p' →
      cmd = cmd' ∧ p = p')

/-- DECODE (R102) completes on every chunk, and this is its answer: INCOMPLETE for an empty chunk, UNRECOGNIZED for an
unknown first byte whatever the length, INCOMPLETE for a known one without its whole payload region, else the frame
with the shape's length and a zero checksum, of which command, length and payload are sent. Nothing else changes. -/
def Obligations.DecodeAnswers : Prop :=
  ∀ (cmd : Byte) (c : List Byte) (s : State),
    (c = [] → decodeChunk c = .incomplete ∧
      exec (.decode cmd c) s = .next { s with response := some { header := 0x00000302#32, data := [] } }) ∧
    (∀ b0 rest, c = b0 :: rest → b0 ≠ 0x3F#8 → b0 ≠ 0x41#8 → decodeChunk c = .unrecognized ∧
      exec (.decode cmd c) s = .next { s with response := some { header := 0x00000303#32, data := [] } }) ∧
    (∀ rest, c = 0x3F#8 :: rest → c.length < 3 → decodeChunk c = .incomplete ∧
      exec (.decode cmd c) s = .next { s with response := some { header := 0x00000302#32, data := [] } }) ∧
    (∀ len b rest, c = 0x3F#8 :: len :: b :: rest →
      decodeChunk c = .frame { command := 0x3F#8, length := 1#8, payload := [b], checksum := 0#16 } ∧
      exec (.decode cmd c) s =
        .next { s with response := some { header := 0x00030300#32, data := [0x3F#8, 0x01#8, b] } }) ∧
    (∀ rest, c = 0x41#8 :: rest → c.length < 18 → decodeChunk c = .incomplete ∧
      exec (.decode cmd c) s = .next { s with response := some { header := 0x00000302#32, data := [] } }) ∧
    (∀ len p rest, c = 0x41#8 :: len :: (p ++ rest) → p.length = 16 →
      decodeChunk c = .frame { command := 0x41#8, length := 16#8, payload := p, checksum := 0#16 } ∧
      exec (.decode cmd c) s =
        .next { s with response := some { header := 0x00120300#32, data := 0x41#8 :: 0x10#8 :: p } })

/-- Every frame DECODE produces is well formed, with length 1 or 16, and a Frame record that is not well formed is
refused (R81). The model's choice, log 10: it is refused where it would be presented, in S_FLUSH and in S_DISPATCH. -/
def Obligations.FramesAreWellFormed : Prop :=
  (∀ (c : List Byte) (f : Frame), decodeChunk c = .frame f →
    f.payload.length = f.length.toNat ∧ (f.length = 1#8 ∨ f.length = 16#8)) ∧
  (∀ (s : State) (f : Frame), s.res = some (.frame f) → f.payload.length ≠ f.length.toNat →
    (s.st = .flush → s.ScannerOk → step s = .refused .malformedFrame) ∧
    (s.st = .dispatch → s.ScannerNext → step s = .refused .malformedFrame))

/-- VALIDATE (R103) completes on every chunk: SHORT for a chunk without a whole frame of the length that byte 1 states,
else VALID or INVALID as the two bytes after the payload are the checksum's, the low byte first, or not; the status is
always OK. Nothing else changes. -/
def Obligations.ValidateAnswers : Prop :=
  ∀ (cmd : Byte) (c : List Byte) (s : State),
    (c.length < 2 →
      exec (.validate cmd c) s = .next { s with response := some { header := 0x00000200#32, data := [] } }) ∧
    (∀ c0 len rest, c = c0 :: len :: rest → c.length < 4 + len.toNat →
      exec (.validate cmd c) s = .next { s with response := some { header := 0x00000200#32, data := [] } }) ∧
    (∀ c0 len p k0 k1 rest, c = c0 :: len :: (p ++ k0 :: k1 :: rest) → p.length = len.toNat →
      (k0 = (Config.checksum16 (c0 :: len :: p)).extractLsb' 0 8 ∧
        k1 = (Config.checksum16 (c0 :: len :: p)).extractLsb' 8 8 →
        exec (.validate cmd c) s = .next { s with response := some { header := 0x00000000#32, data := [] } }) ∧
      (¬ (k0 = (Config.checksum16 (c0 :: len :: p)).extractLsb' 0 8 ∧
          k1 = (Config.checksum16 (c0 :: len :: p)).extractLsb' 8 8) →
        exec (.validate cmd c) s = .next { s with response := some { header := 0x00000100#32, data := [] } }))

/-- The whole round-trip table (R105), for every checksum function: what DECODE makes of what ENCODE made. -/
def Obligations.RoundTripTable : Prop :=
  ∀ (ck : List Byte → Half) (cmd : Byte) (p e : List Byte), p.length ≤ 255 → encodeFrame ck cmd p = .ok e →
    (cmd = 0x3F#8 → p.length = 1 → decodeChunk e = .frame ⟨0x3F#8, 1#8, p, 0#16⟩) ∧
    (cmd = 0x3F#8 → p.length = 0 →
      decodeChunk e = .frame ⟨0x3F#8, 1#8, [(ck [0x3F#8, 0x00#8]).extractLsb' 0 8], 0#16⟩) ∧
    (∀ b q, cmd = 0x3F#8 → p = b :: q → q ≠ [] → decodeChunk e = .frame ⟨0x3F#8, 1#8, [b], 0#16⟩) ∧
    (cmd = 0x41#8 → p.length = 16 → decodeChunk e = .frame ⟨0x41#8, 16#8, p, 0#16⟩) ∧
    (cmd = 0x41#8 → (p.length = 14 ∨ p.length = 15) →
      decodeChunk e = .frame ⟨0x41#8, 16#8,
        (p ++ [(ck (0x41#8 :: BitVec.ofNat 8 p.length :: p)).extractLsb' 0 8,
               (ck (0x41#8 :: BitVec.ofNat 8 p.length :: p)).extractLsb' 8 8]).take 16, 0#16⟩) ∧
    (cmd = 0x41#8 → p.length ≤ 13 → decodeChunk e = .incomplete) ∧
    (cmd = 0x41#8 → 17 ≤ p.length → decodeChunk e = .frame ⟨0x41#8, 16#8, p.take 16, 0#16⟩) ∧
    (cmd ≠ 0x3F#8 → cmd ≠ 0x41#8 → decodeChunk e = .unrecognized)

/-- The validator accepts what the encoder makes, whatever follows it, and rejects a frame whose header and payload
were changed when the checksum tells them apart (R106), for every checksum function. The changed frame is one that
states the length of its changed payload. -/
def Obligations.ValidatorAcceptsEncoder : Prop :=
  ∀ (ck : List Byte → Half) (cmd : Byte) (p : List Byte), p.length ≤ 255 →
    (∀ e t, encodeFrame ck cmd p = .ok e → validateChunk ck (e ++ t) = .valid) ∧
    (∀ (cmd' : Byte) (p' t : List Byte), p'.length ≤ 255 →
      ck (cmd' :: BitVec.ofNat 8 p'.length :: p') ≠ ck (cmd :: BitVec.ofNat 8 p.length :: p) →
      validateChunk ck (cmd' :: BitVec.ofNat 8 p'.length ::
        (p' ++ checksumBytes (ck (cmd :: BitVec.ofNat 8 p.length :: p)) ++ t)) = .invalid)

/-- Decoding is a prefix function, and validating too (R107): bytes appended to a chunk change only the verdicts
INCOMPLETE and SHORT. -/
def Obligations.VerdictsSurviveAppending : Prop :=
  ∀ (ck : List Byte → Half) (c t : List Byte),
    (∀ f, decodeChunk c = .frame f → decodeChunk (c ++ t) = .frame f) ∧
    (decodeChunk c = .unrecognized → decodeChunk (c ++ t) = .unrecognized) ∧
    (validateChunk ck c = .valid → validateChunk ck (c ++ t) = .valid) ∧
    (validateChunk ck c = .invalid → validateChunk ck (c ++ t) = .invalid)

/-- A CHUNK_CAPACITY of 259 or more cannot be observed: DECODE and VALIDATE read no byte past it (R152, D32). -/
def Obligations.CapacityUnobservable : Prop :=
  ∀ (ck : List Byte → Half) (n : Nat) (c : List Byte), 259 ≤ n →
    decodeChunk (c.take n) = decodeChunk c ∧ validateChunk ck (c.take n) = validateChunk ck c

/-- The codec unit is stateless (R21): the answer to ENCODE, DECODE or VALIDATE is a function of the request alone, and
serving it changes nothing but the response. -/
def Obligations.CodecUnitStateless : Prop :=
  (∀ cmd p, ∃ r, ∀ s, exec (.encode cmd p) s = .next { s with response := some r }) ∧
  (∀ cmd c, ∃ r, ∀ s, exec (.decode cmd c) s = .next { s with response := some r }) ∧
  (∀ cmd c, ∃ r, ∀ s, exec (.validate cmd c) s = .next { s with response := some r })

/-! ## Requests that touch the scanner, and illegal ones -/

/-- START (R141): from S_RESET it answers OK and ST becomes S_POLL; in every other named state it answers IGNORED and
changes nothing. (What an unused ST does is in UnusedScanStateFaults.) -/
def Obligations.StartAnswers : Prop :=
  ∀ (cmd : Byte) (s : State),
    (s.st = .reset →
      exec (.start cmd) s =
        .next { s with st := .poll, response := some { header := 0x00000300#32, data := [] } }) ∧
    (s.st ≠ .reset → (∀ k, s.st ≠ .unused k) →
      exec (.start cmd) s = .next { s with response := some { header := 0x00000305#32, data := [] } })

/-- CANCEL (R142): from every named state but S_EXITED it answers OK, empties CHUNK, RES and CRC_STATUS, withdraws
RECONNECT_REQ, stops the timers (R204), raises LOOP_EXIT(CANCELLED) and ST becomes S_EXITED; in S_EXITED it answers
IGNORED and changes nothing. The model's choice, log 6: the two handshake bits are cleared. (What an unused ST does is
in UnusedScanStateFaults.) -/
def Obligations.CancelAnswers : Prop :=
  ∀ (cmd : Byte) (s : State),
    (s.st ≠ .exited → (∀ k, s.st ≠ .unused k) →
      exec (.cancel cmd) s =
        .next { s with
          chunk := [], res := none, crcStatus := .none, reconnectReq := false, idleTimer := .stopped,
          settleTimer := .stopped, dispatchDone := false, reconnectDone := false, st := .exited,
          event := some (.loopExit .cancelled), response := some { header := 0x00000300#32, data := [] } }) ∧
    (s.st = .exited →
      exec (.cancel cmd) s = .next { s with response := some { header := 0x00000305#32, data := [] } })

/-- The illegal requests complete (R83, R194): each answers BAD_OP with no data and changes nothing else. -/
def Obligations.IllegalRequestsAnswerBadOp : Prop :=
  ∀ (op : BitVec 3) (rsv : BitVec 5) (cmd : Byte) (data : List Byte) (s : State),
    exec (.reservedOp5 rsv cmd data) s = .next { s with response := some { header := 0x00000304#32, data := [] } } ∧
    exec (.reservedOp6 rsv cmd data) s = .next { s with response := some { header := 0x00000304#32, data := [] } } ∧
    exec (.reservedOp7 rsv cmd data) s = .next { s with response := some { header := 0x00000304#32, data := [] } } ∧
    exec (.illegalRequest op rsv cmd data) s =
      .next { s with response := some { header := 0x00000304#32, data := [] } }

/-- The request format is checked first (R83, R199 (a)): a CALLER's request whose op is reserved, whose rsv is not 0, or
that is START or CANCEL with data, is answered BAD_OP in that step whatever else it holds, and changes no register. -/
def Obligations.FormatCheckedFirst : Prop :=
  ∀ (h : HeaderWord) (data : List Byte) (s : State),
    s.nextTurn = .caller h data → data.length = (hdrCount h).toNat →
    (hdrOp h = 5#3 ∨ hdrOp h = 6#3 ∨ hdrOp h = 7#3 ∨ hdrRsv h ≠ 0#5 ∨
      ((hdrOp h = 3#3 ∨ hdrOp h = 4#3) ∧ hdrCount h ≠ 0#16)) →
    step s = .next { s.begin with response := some { header := 0x00000304#32, data := [] } }

/-! ## The byte-0 rows -/

/-- The key/status row completes (R74, R153, R154) as the classify step (log 12): a chunk of at least 3 bytes that starts with 0x3F leaves the frame
of its third byte in RES, VALIDATE's verdict in CRC_STATUS, and ST at S_FLUSH; a shorter one is INCOMPLETE, and is
flushed or dropped as FLUSH_ON_INCOMPLETE says. Nothing else changes. -/
def Obligations.KeyStatusShapeClassifies : Prop :=
  ∀ (s : State) (rest : List Byte), s.chunk = 0x3F#8 :: rest →
    (∀ len b more, rest = len :: b :: more →
      exec .keyStatusShape s = .next { s with
        res := some (.frame ⟨0x3F#8, 1#8, [b], 0#16⟩), crcStatus := validateChunk Config.checksum16 s.chunk,
        st := .flush }) ∧
    (rest.length < 2 → s.params.flushOnIncomplete = true →
      exec .keyStatusShape s = .next { s with
        res := some .incomplete, crcStatus := validateChunk Config.checksum16 s.chunk, st := .flush }) ∧
    (rest.length < 2 → s.params.flushOnIncomplete = false →
      exec .keyStatusShape s = .next { s with chunk := [], res := none, crcStatus := .none, st := .poll })

/-- The broadcast row completes (R75, R153, R154) as the classify step (log 12): a chunk of at least 18 bytes that starts with 0x41 leaves the frame
of its bytes 2 to 17 in RES, VALIDATE's verdict in CRC_STATUS, and ST at S_FLUSH; a shorter one is INCOMPLETE, and is
flushed or dropped as FLUSH_ON_INCOMPLETE says. Nothing else changes. -/
def Obligations.BroadcastShapeClassifies : Prop :=
  ∀ (s : State) (rest : List Byte), s.chunk = 0x41#8 :: rest →
    (∀ len p more, rest = len :: (p ++ more) → p.length = 16 →
      exec .broadcastShape s = .next { s with
        res := some (.frame ⟨0x41#8, 16#8, p, 0#16⟩), crcStatus := validateChunk Config.checksum16 s.chunk,
        st := .flush }) ∧
    (rest.length < 17 → s.params.flushOnIncomplete = true →
      exec .broadcastShape s = .next { s with
        res := some .incomplete, crcStatus := validateChunk Config.checksum16 s.chunk, st := .flush }) ∧
    (rest.length < 17 → s.params.flushOnIncomplete = false →
      exec .broadcastShape s = .next { s with chunk := [], res := none, crcStatus := .none, st := .poll })

/-- The row of every other byte 0 completes (R77, R153, R154, R193) as the classify step (log 12): the chunk is UNRECOGNIZED; it is dropped at once, or
flushed first when FLUSH_ON_UNRECOGNIZED is set. Nothing else changes. -/
def Obligations.UnrecognizedIsDropped : Prop :=
  ∀ (s : State) (b0 : Byte),
    (s.params.flushOnUnrecognized = false →
      exec (.unrecognized b0) s = .next { s with chunk := [], res := none, crcStatus := .none, st := .poll }) ∧
    (s.params.flushOnUnrecognized = true →
      exec (.unrecognized b0) s = .next { s with
        res := some .unrecognized, crcStatus := validateChunk Config.checksum16 s.chunk, st := .flush })

/-! ## A step -/

/-- A step runs the decoded instruction: a CALLER's request, and in S_CLASSIFY the row that byte 0 of CHUNK selects,
are run by exec in the state in which the turn is taken (the turn used up, the outputs of the last step gone) (R78, R140,
R153). The model's choice, log 7: request data of another length than the header announces are refused. -/
def Obligations.StepRunsDecodedInstruction : Prop :=
  (∀ (s : State) (h : HeaderWord) (data : List Byte) (i : Instr),
    s.nextTurn = .caller h data → decode (.request h data) = .ok i → step s = exec i s.begin) ∧
  (∀ (s : State) (h : HeaderWord) (data : List Byte),
    s.nextTurn = .caller h data → data.length ≠ (hdrCount h).toNat →
    step s = .refused (.malformedRequest (hdrCount h).toNat data.length)) ∧
  (∀ (s : State) (tx : TxDraw) (b0 : Byte) (rest : List Byte) (i : Instr),
    s.nextTurn = .scanner tx → s.st = .classify → s.chunk = b0 :: rest → decode (.byte0 b0) = .ok i →
    step s = exec i s.begin)

/-- What a step begins with: the first listed turn is the next one and is used up, a free turn is drawn when none is
listed, the response and the event of the last step are gone, and nothing else differs (R198, log 1). -/
def Obligations.StepBeginsWithNextTurn : Prop :=
  (∀ (s : State) (t : Turn) (ts : List Turn), s.turns = t :: ts →
    s.nextTurn = t ∧ s.begin = { s with turns := ts, response := none, event := none }) ∧
  (∀ s : State, s.turns = [] →
    s.nextTurn = Config.freeTurn s.drawn ∧ s.begin = { s with drawn := s.drawn + 1, response := none, event := none })

/-- A table row's word that is placed for the next step is run by it, as the instruction the decoder reads (log 9). -/
def Obligations.PlacedWordIsRun : Prop :=
  ∀ (s : State) (nbits w : Nat) (i : Instr), decodeTableWord nbits w = some i →
    (∀ h data, tableWord nbits w = .request h data →
      step (s.withFetchWord nbits w) = exec i { s with response := none, event := none }) ∧
    (∀ b0, tableWord nbits w = .byte0 b0 →
      step (s.withFetchWord nbits w) = exec i
        { s with st := .classify, chunk := b0 :: List.replicate 19 0#8, response := none, event := none })

/-! ## The scanner's steps -/

/-- S_POLL (R144, R145, R146, R147): a closed transport ends the loop, a failing query is a transport fault, no bytes
start the idle timer, bytes start the settle timer. -/
def Obligations.PollStep : Prop :=
  ∀ (s : State) (tx : TxDraw), s.nextTurn = .scanner tx → s.st = .poll →
    (s.txOpen = false →
      step s = .next { s.begin with st := .exited, event := some (.loopExit .closed) }) ∧
    (s.txOpen = true →
      (∀ left, tx = .err left →
        step s = .next { s.begin with
          rxbuf := left, chunk := [], res := none, crcStatus := .none, faultCause := .query, txOpen := false,
          event := some (.disconnect .query), reconnectReq := true, st := .fault }) ∧
      (tx = .ok → s.rxbuf.length = 0 → step s = .next { s.begin with st := .idleWait, idleTimer := .running }) ∧
      (tx = .ok → 0 < s.rxbuf.length → step s = .next { s.begin with st := .settle, settleTimer := .running }))

/-- S_IDLE_WAIT and S_SETTLE (R148, R149): the step is taken when the timer has expired, and not before; and a timer that
runs expires by a turn of the environment (R204). The model's choices: the expired timer is stopped by the step and an
expiry of a timer that does not run changes nothing (log 2), and a scanner's turn that comes too early changes nothing
(log 1). -/
def Obligations.TimedWaits : Prop :=
  (∀ (s : State) (tx : TxDraw), s.nextTurn = .scanner tx →
    (s.st = .idleWait → s.idleTimer = .expired →
      step s = .next { s.begin with st := .poll, idleTimer := .stopped }) ∧
    (s.st = .idleWait → s.idleTimer ≠ .expired → step s = .next s.begin) ∧
    (s.st = .settle → s.settleTimer = .expired →
      step s = .next { s.begin with st := .drain, settleTimer := .stopped }) ∧
    (s.st = .settle → s.settleTimer ≠ .expired → step s = .next s.begin)) ∧
  (∀ s : State, s.nextTurn = .idleTimerExpires →
    (s.idleTimer = .running → step s = .next { s.begin with idleTimer := .expired }) ∧
    (s.idleTimer ≠ .running → step s = .next s.begin)) ∧
  (∀ s : State, s.nextTurn = .settleTimerExpires →
    (s.settleTimer = .running → step s = .next { s.begin with settleTimer := .expired }) ∧
    (s.settleTimer ≠ .running → step s = .next s.begin))

/-- S_DRAIN (R150, R151, R152): a failing read is a transport fault, an empty one ends the loop, any other empties
RXBUF into CHUNK, up to CHUNK_CAPACITY. -/
def Obligations.DrainStep : Prop :=
  ∀ (s : State) (tx : TxDraw), s.nextTurn = .scanner tx → s.st = .drain →
    (∀ left, tx = .err left →
      step s = .next { s.begin with
        rxbuf := left, chunk := [], res := none, crcStatus := .none, faultCause := .drain, txOpen := false,
        event := some (.disconnect .drain), reconnectReq := true, st := .fault }) ∧
    (tx = .ok → s.rxbuf = [] →
      step s = .next { s.begin with st := .exited, event := some (.loopExit .emptyDrain) }) ∧
    (tx = .ok → s.rxbuf ≠ [] → s.params.chunkCapacity = none →
      step s = .next { s.begin with rxbuf := [], chunk := s.rxbuf, st := .classify }) ∧
    (∀ n, tx = .ok → s.rxbuf ≠ [] → s.params.chunkCapacity = some n →
      step s = .next { s.begin with rxbuf := [], chunk := s.rxbuf.take n, st := .classify })

/-- S_CLASSIFY (R153): RES and CRC_STATUS become DECODE's and VALIDATE's verdicts on CHUNK, and where the flush policy
of R154 asks for a flush, as it does for every frame, ST becomes S_FLUSH; so R153's branch to S_DISPATCH is never taken,
and a verdict without a flush is dropped. No transport call. -/
def Obligations.ClassifyStep : Prop :=
  ∀ (s : State) (tx : TxDraw), s.nextTurn = .scanner tx → s.st = .classify →
    (needsFlush s.params (decodeChunk s.chunk) = true →
      step s = .next { s.begin with
        res := some (decodeChunk s.chunk), crcStatus := validateChunk Config.checksum16 s.chunk, st := .flush }) ∧
    (∀ f, decodeChunk s.chunk = .frame f → needsFlush s.params (decodeChunk s.chunk) = true) ∧
    (needsFlush s.params (decodeChunk s.chunk) = false →
      step s = .next { s.begin with chunk := [], res := none, crcStatus := .none, st := .poll })

/-- The flush policy (R154): always for a frame, as the parameters say for the two other verdicts; and the defaults. -/
def Obligations.FlushPolicy : Prop :=
  (∀ (p : Params) (f : Frame), needsFlush p (.frame f) = true) ∧
  (∀ p : Params, needsFlush p .incomplete = p.flushOnIncomplete) ∧
  (∀ p : Params, needsFlush p .unrecognized = p.flushOnUnrecognized) ∧
  State.reset.params.flushOnIncomplete = true ∧ State.reset.params.flushOnUnrecognized = false

/-- S_FLUSH (R155): a failing read is a transport fault and the frame is lost; otherwise all that RXBUF held is
discarded, and a (well-formed, R81) frame goes to S_DISPATCH while anything else is dropped. For a Frame record that
is not well formed see FramesAreWellFormed (log 10). -/
def Obligations.FlushStep : Prop :=
  ∀ (s : State) (tx : TxDraw), s.nextTurn = .scanner tx → s.st = .flush →
    (∀ left, tx = .err left →
      step s = .next { s.begin with
        rxbuf := left, chunk := [], res := none, crcStatus := .none, faultCause := .flush, txOpen := false,
        event := some (.disconnect .flush), reconnectReq := true, st := .fault }) ∧
    (∀ f, tx = .ok → s.res = some (.frame f) → f.wf = true →
      step s = .next { s.begin with rxbuf := [], st := .dispatch }) ∧
    (tx = .ok → (∀ f, s.res ≠ some (.frame f)) →
      step s = .next { s.begin with rxbuf := [], chunk := [], res := none, crcStatus := .none, st := .poll })

/-- S_DISPATCH (R156): FRAME_OUT presents the frame of RES and its checksum verdict; the scanner waits until
dispatch_done, and then empties CHUNK, RES and CRC_STATUS and polls again. The model's choice, log 6: dispatch_done is
a bit that the step clears. -/
def Obligations.DispatchStep : Prop :=
  ∀ (s : State) (f : Frame), s.st = .dispatch → s.res = some (.frame f) → f.wf = true →
    s.frameOutValid = true ∧ s.frameOut = some (f, s.crcStatus) ∧
    (s.ScannerNext → s.dispatchDone = true →
      step s = .next { s.begin with
        chunk := [], res := none, crcStatus := .none, dispatchDone := false, st := .poll }) ∧
    (s.ScannerNext → s.dispatchDone = false → step s = .next s.begin)

/-- Fault entry (R196): each step that raises TransportFault records its cause, empties CHUNK, RES and CRC_STATUS,
raises DISCONNECT, closes the transport, sets RECONNECT_REQ and enters S_FAULT, whatever the registers held. -/
def Obligations.TransportFaultEntry : Prop :=
  ∀ (s : State) (left : List Byte) (cause : FaultCause), s.nextTurn = .scanner (.err left) →
    ((s.st = .poll ∧ s.txOpen = true ∧ cause = .query) ∨ (s.st = .drain ∧ cause = .drain) ∨
      (s.st = .flush ∧ cause = .flush)) →
    ∃ t, step s = .next t ∧ t.faultCause = cause ∧ t.chunk = [] ∧ t.res = none ∧ t.crcStatus = .none ∧
      t.event = some (.disconnect cause) ∧ t.txOpen = false ∧ t.reconnectReq = true ∧ t.st = .fault ∧
      t.response = none ∧ t.params = s.params ∧ t.wire = s.wire

/-- Fault return (R197): in S_FAULT the scanner waits until reconnect_done, and then clears RECONNECT_REQ and polls
again; FAULT_CAUSE and everything else keep their values. The model's choice, log 6: reconnect_done is a bit that the
step clears. -/
def Obligations.FaultReturn : Prop :=
  ∀ (s : State), s.st = .fault → s.ScannerNext →
    (s.reconnectDone = true →
      step s = .next { s.begin with reconnectReq := false, reconnectDone := false, st := .poll }) ∧
    (s.reconnectDone = false → step s = .next s.begin)

/-- A state without a step (R143, R158), and a handshake that no state waits for (R221): S_RESET and S_EXITED stay as
they are on the scanner's turn (log 1), dispatch_done counts in S_DISPATCH alone and reconnect_done in S_FAULT alone
(log 6). -/
def Obligations.StatesWithoutStep : Prop :=
  (∀ s : State, s.ScannerNext → (s.st = .reset ∨ s.st = .exited) → step s = .next s.begin) ∧
  (∀ s : State, s.nextTurn = .dispatcherDone →
    (s.st ≠ .dispatch → step s = .next s.begin) ∧
    (s.st = .dispatch → step s = .next { s.begin with dispatchDone := true })) ∧
  (∀ s : State, s.nextTurn = .supervisorDone →
    (s.st ≠ .fault → step s = .next s.begin) ∧
    (s.st = .fault → step s = .next { s.begin with reconnectDone := true }))

/-- An unused ST (R37): no step makes one, and the operations that read ST fault on one. The model's choice, log 8: these
are the scanner's step, START and CANCEL. -/
def Obligations.UnusedScanStateFaults : Prop :=
  (∀ (s t : State) (k : Fin 6), step s = .next t → t.st = .unused k → s.st = .unused k) ∧
  (∀ (s : State) (k : Fin 6), s.st = .unused k → (s.ScannerNext ∨ s.StartNext ∨ s.CancelNext) →
    step s = .fault .badState)

/-! ## Reset -/

/-- The reset values (R36), of the machine right after reset. -/
def Obligations.ResetValues : Prop :=
  State.reset.st = .reset ∧ State.reset.chunk = [] ∧ State.reset.res = none ∧ State.reset.crcStatus = .none ∧
  State.reset.faultCause = .none ∧ State.reset.reconnectReq = false ∧ State.reset.frameOutValid = false ∧
  State.reset.idleTimer = .stopped ∧ State.reset.settleTimer = .stopped

/-- Reset in any state (R220, R221): every register takes its reset value, the timers stop, no event is raised, and
nothing outside the block changes. The model's choice, log 6: a handshake already asserted counts no more. -/
def Obligations.ResetFromAnyState : Prop :=
  ∀ s : State, s.nextTurn = .ownerResets →
    step s = .next { s.begin with
      st := .reset, chunk := [], res := none, crcStatus := .none, faultCause := .none, reconnectReq := false,
      idleTimer := .stopped, settleTimer := .stopped, dispatchDone := false, reconnectDone := false }

/-! ## The machine as a whole -/

/-- The invariant holds after reset. -/
def Obligations.InvariantAtReset : Prop := State.reset.Inv

/-- Every step keeps the invariant: CHUNK, RES and CRC_STATUS fit ST (R23, R24, R25), RECONNECT_REQ is the level of
S_FAULT (R28), the timers run in their states alone (R204), ST is a named value (R37). -/
def Obligations.InvariantKept : Prop := ∀ s t : State, s.Inv → step s = .next t → t.Inv

/-- From a state of the invariant no step faults, and a step is refused only where a CALLER's turn is no request of R78
(log 7) or the OWNER would change a parameter (R29, log 11). -/
def Obligations.InvariantStatesGoOn : Prop :=
  ∀ s : State, s.Inv →
    (∀ f, step s ≠ .fault f) ∧
    (∀ r, step s = .refused r →
      (∃ h data, s.nextTurn = .caller h data ∧ data.length ≠ (hdrCount h).toNat) ∨
      (∃ p, s.nextTurn = .ownerSetsParams p))

/-- The transition summary (R160), complete over the states of the invariant: each row's condition makes ST what the
row says, and ST changes by no other way. -/
def Obligations.TransitionSummary : Prop :=
  ∀ s : State, s.Inv →
    (∀ q, TransitionRow s q → ∃ t, step s = .next t ∧ t.st = q) ∧
    (∀ t, step s = .next t → t.st ≠ s.st → TransitionRow s t.st)

/-- S_EXITED is absorbing (R158): FRAME_OUT is not valid and RECONNECT_REQ is 0 there, the scanner has no step, START
and CANCEL answer IGNORED, and only reset leaves it. -/
def Obligations.ExitedIsAbsorbing : Prop :=
  ∀ s : State, s.Inv → s.st = .exited →
    s.frameOutValid = false ∧ s.reconnectReq = false ∧
    (s.ScannerNext → step s = .next s.begin) ∧
    (s.StartNext ∨ s.CancelNext →
      step s = .next { s.begin with response := some { header := 0x00000305#32, data := [] } }) ∧
    (∀ t, step s = .next t → t.st = .exited ∨ s.nextTurn = .ownerResets)

/-- An empty drain ends the loop for good (R230): after it, however many turns follow, ST stays S_EXITED, no frame is
presented, no fault is raised and the supervisor is not told, as long as no turn is a reset. -/
def Obligations.EmptyDrainEndsForGood : Prop :=
  ∀ (s t : State) (ts : List Turn), s.st = .drain → s.rxbuf = [] → s.turns = .scanner .ok :: ts →
    Turn.ownerResets ∉ ts → ∀ k ≤ ts.length, Host.Core.run Sys2Proof.core (k + 1) s = .next t →
    t.st = .exited ∧ t.frameOut = none ∧ t.faultCause = s.faultCause ∧ t.reconnectReq = s.reconnectReq ∧
      ∀ c, t.event ≠ some (.disconnect c)

/-- FRAME_OUT (R27) shows the frame of the chunk that was drained: DECODE's frame of CHUNK, which is that of CHUNK's
first 2 + N bytes alone, with VALIDATE's verdict on CHUNK, whatever that verdict is (R159, R109). -/
def Obligations.PresentedFrameIsTheChunks : Prop :=
  ∀ (s : State) (f : Frame) (crc : CrcStatus), s.Inv → s.frameOut = some (f, crc) →
    s.st = .dispatch ∧ decodeChunk s.chunk = .frame f ∧ f.wf = true ∧
    decodeChunk (s.chunk.take (2 + f.length.toNat)) = .frame f ∧ crc = validateChunk Config.checksum16 s.chunk

/-- One chunk, at most one frame, one at a time (R58, R159): CHUNK is filled by a drain alone; FRAME_OUT becomes valid by
a flush alone, on the chunk held then; and when it stops being valid the chunk is gone. -/
def Obligations.OneFramePerChunk : Prop :=
  ∀ s t : State, s.Inv → step s = .next t →
    (s.chunk = [] → t.chunk ≠ [] → s.st = .drain ∧ s.ScannerOk) ∧
    (s.frameOutValid = false → t.frameOutValid = true → s.st = .flush ∧ s.ScannerOk ∧ t.chunk = s.chunk) ∧
    (s.frameOutValid = true → t.frameOutValid = false → t.chunk = [])

/-- While a frame is presented (R58, R231): it stays as it is until dispatch_done is taken by the scanner, CANCEL or
reset, and the scanner makes no transport call. -/
def Obligations.FrameHeldUntilDone : Prop :=
  ∀ s t : State, s.frameOutValid = true → step s = .next t →
    (t.frameOut = s.frameOut ∨ (s.ScannerNext ∧ s.dispatchDone = true ∧ t.st = .poll) ∨
      (s.CancelNext ∧ t.st = .exited) ∨ (s.nextTurn = .ownerResets ∧ t.st = .reset)) ∧
    (s.ScannerNext → t.rxbuf = s.rxbuf ∧ t.txOpen = s.txOpen)

/-- The checksum never gates (R109, R25): two states that differ in CRC_STATUS alone step alike, to states that differ in
CRC_STATUS alone. -/
def Obligations.ChecksumNeverGates : Prop :=
  ∀ (s : State) (c : CrcStatus),
    (∀ t, step s = .next t → ∃ c', step { s with crcStatus := c } = .next { t with crcStatus := c' }) ∧
    (∀ f, step s = .fault f → step { s with crcStatus := c } = .fault f) ∧
    (∀ r, step s = .refused r → step { s with crcStatus := c } = .refused r)

/-- FAULT_CAUSE (R26): its codes; it changes on fault entry, where it is the cause in the DISCONNECT event, and on reset,
and on nothing else; no transition reads it. -/
def Obligations.FaultCauseInformational : Prop :=
  (FaultCause.code .none = 0b00#2 ∧ FaultCause.code .query = 0b01#2 ∧ FaultCause.code .drain = 0b10#2 ∧
    FaultCause.code .flush = 0b11#2) ∧
  (∀ s t : State, step s = .next t → t.faultCause = s.faultCause ∨
    (t.st = .fault ∧ t.event = some (.disconnect t.faultCause)) ∨
    (s.nextTurn = .ownerResets ∧ t.faultCause = .none)) ∧
  (∀ (s t : State) (c : FaultCause), step s = .next t →
    ∃ c', step { s with faultCause := c } = .next { t with faultCause := c' })

/-- RECONNECT_REQ (R28): it is set by fault entry alone, and cleared by the fault return, CANCEL and reset alone. -/
def Obligations.ReconnectRequestLevel : Prop :=
  ∀ s t : State, step s = .next t →
    (s.reconnectReq = false → t.reconnectReq = true → t.st = .fault ∧ ∃ c, t.event = some (.disconnect c)) ∧
    (s.reconnectReq = true → t.reconnectReq = false →
      (s.st = .fault ∧ s.ScannerNext ∧ s.reconnectDone = true ∧ t.st = .poll) ∨ s.CancelNext ∨
      s.nextTurn = .ownerResets) ∧
    (t.st = .fault → s.st ≠ .fault → t.reconnectReq = true) ∧
    (s.st = .fault → s.ScannerNext → s.reconnectDone = true → t.reconnectReq = false) ∧
    (s.CancelNext → t.st ≠ s.st → t.reconnectReq = false) ∧ (s.nextTurn = .ownerResets → t.reconnectReq = false)

/-- The one-step events (R198): DISCONNECT is raised on fault entry and only then, LOOP_EXIT when ST becomes S_EXITED,
by whichever step, and only then, with the reason of the step that made it so. -/
def Obligations.EventsMarkEntry : Prop :=
  ∀ s t : State, step s = .next t →
    (∀ c, t.event = some (.disconnect c) ↔ (t.st = .fault ∧ s.st ≠ .fault ∧ t.faultCause = c)) ∧
    (t.st = .exited → s.st ≠ .exited → ∃ r, t.event = some (.loopExit r)) ∧
    (t.event = some (.loopExit .closed) ↔ (t.st = .exited ∧ s.st = .poll ∧ s.ScannerNext)) ∧
    (t.event = some (.loopExit .emptyDrain) ↔ (t.st = .exited ∧ s.st = .drain ∧ s.ScannerNext)) ∧
    (t.event = some (.loopExit .cancelled) ↔ (t.st = .exited ∧ s.st ≠ .exited ∧ s.CancelNext))

/-- The configuration (R29): no step changes a parameter, and a turn that would is refused (log 11). -/
def Obligations.ParametersNeverChange : Prop :=
  (∀ s t : State, step s = .next t → t.params = s.params) ∧
  (∀ (s : State) (p : Params), s.nextTurn = .ownerSetsParams p → step s = .refused .parameterChange)

/-- No rule depends on the two intervals (R204): states that differ in them alone step alike. -/
def Obligations.IntervalsHaveNoEffect : Prop :=
  ∀ (s t : State) (a b : Nat), step s = .next t →
    step { s with params := { s.params with idleInterval := a, settleInterval := b } } =
      .next { t with params := { t.params with idleInterval := a, settleInterval := b } }

/-- RXBUF (R54): received bytes are appended at its end, and the transport empties it, each by a turn that changes nothing
else; and it changes by these, by a successful read of the drain or the flush, which empties it, and by a call that
answers Err, after which it holds anything, and by nothing else. -/
def Obligations.ReceiveBufferRules : Prop :=
  (∀ (s : State) (bytes : List Byte), s.nextTurn = .transportReceives bytes →
    step s = .next { s.begin with rxbuf := s.rxbuf ++ bytes }) ∧
  (∀ s : State, s.nextTurn = .transportDrops → step s = .next { s.begin with rxbuf := [] }) ∧
  (∀ s t : State, step s = .next t →
    t.rxbuf = s.rxbuf ∨ (∃ bytes, s.nextTurn = .transportReceives bytes ∧ t.rxbuf = s.rxbuf ++ bytes) ∨
    (s.nextTurn = .transportDrops ∧ t.rxbuf = []) ∨
    (s.ScannerOk ∧ (s.st = .drain ∨ s.st = .flush) ∧ t.rxbuf = []) ∨
    (∃ left, s.nextTurn = .scanner (.err left) ∧ (s.st = .poll ∨ s.st = .drain ∨ s.st = .flush) ∧ t.rxbuf = left))

/-- The transport's open flag (R55): the supervisor's open sets it and a close of the environment clears it, each by a
turn that changes nothing else; and it is set by the supervisor's open alone, and cleared by a close alone: the
environment's, or that of a fault entry. -/
def Obligations.OpenFlagRules : Prop :=
  (∀ s : State, s.nextTurn = .supervisorOpens → step s = .next { s.begin with txOpen := true }) ∧
  (∀ s : State, s.nextTurn = .transportCloses → step s = .next { s.begin with txOpen := false }) ∧
  (∀ s t : State, step s = .next t →
    (s.txOpen = false → t.txOpen = true → s.nextTurn = .supervisorOpens) ∧
    (s.txOpen = true → t.txOpen = false →
      s.nextTurn = .transportCloses ∨ (t.st = .fault ∧ s.st ≠ .fault ∧ ∃ c, t.event = some (.disconnect c))))

/-- The transmit side (R56, R232): bytes reach the wire by a caller's write alone, all of one write's bytes together and
after those before; the block itself, ENCODE included, writes nothing. The model's choice, log 5: a write that fails
puts nothing on the wire. -/
def Obligations.WritesDoNotInterleave : Prop :=
  (∀ s t : State, step s = .next t →
    t.wire = s.wire ∨ ∃ bytes, s.nextTurn = .callerWrites bytes true ∧ t.wire = s.wire ++ bytes) ∧
  (∀ (s : State) (bytes : List Byte), s.nextTurn = .callerWrites bytes true →
    step s = .next { s.begin with wire := s.wire ++ bytes })

/-- Requests to the codec unit and scanner steps are independent (R59, R21): in either order they give the same response,
the same registers and the same surroundings; only what the two output ports hold last differs. -/
def Obligations.CodecAndScannerCommute : Prop :=
  ∀ (s t : State) (ts : List Turn) (tx : TxDraw) (h : HeaderWord) (data : List Byte) (i : Instr),
    decode (.request h data) = .ok i →
    ((∃ cmd p, i = .encode cmd p) ∨ (∃ cmd c, i = .decode cmd c) ∨ (∃ cmd c, i = .validate cmd c)) →
    Host.Core.run Sys2Proof.core 2 { s with turns := .caller h data :: .scanner tx :: ts } = .next t →
    ∃ (r : Response) (t' : State),
      step { s with turns := .caller h data :: .scanner tx :: ts } =
        .next { s with turns := .scanner tx :: ts, response := some r, event := none } ∧
      Host.Core.run Sys2Proof.core 2 { s with turns := .scanner tx :: .caller h data :: ts } = .next t' ∧
      t'.response = some r ∧ t = { t' with response := t.response, event := t.event }

/-- START before the transport is open ends the loop at once (R223): the first scanner step exits, and a later START is
IGNORED. -/
def Obligations.StartBeforeOpenEndsTheLoop : Prop :=
  ∀ (s : State) (tx : TxDraw) (ts : List Turn), s.st = .reset → s.txOpen = false →
    s.turns = .caller 0x00000003#32 [] :: .scanner tx :: .caller 0x00000003#32 [] :: ts →
    ∃ t, Host.Core.run Sys2Proof.core 3 s = .next t ∧ t.st = .exited ∧
      t.response = some { header := 0x00000305#32, data := [] }

/-- A whole frame of one of the two shapes that arrives as one burst is presented as it was encoded, with the verdict
VALID (R105, R106, R109, R159): from S_POLL with the transport open, in seven turns, whatever follows the frame in the
burst and whatever bytes the flush then discards. -/
def Obligations.EncodedFrameIsDelivered : Prop :=
  ∀ (s : State) (cmd : Byte) (p e tail more : List Byte) (tx tx' : TxDraw) (ts : List Turn),
    s.Inv → s.st = .poll → s.txOpen = true →
    ((cmd = 0x3F#8 ∧ p.length = 1) ∨ (cmd = 0x41#8 ∧ p.length = 16)) →
    encodeFrame Config.checksum16 cmd p = .ok e → s.rxbuf = e ++ tail →
    s.turns = .scanner .ok :: .settleTimerExpires :: .scanner tx :: .scanner .ok :: .scanner tx' ::
      .transportReceives more :: .scanner .ok :: ts →
    ∃ t, Host.Core.run Sys2Proof.core 7 s = .next t ∧
      t.frameOut = some (⟨cmd, BitVec.ofNat 8 p.length, p, 0#16⟩, .valid) ∧ t.rxbuf = [] ∧ t.turns = ts
end

