-- ==== Sys2Proof/Laws/Decode.lean ====
section
/-! SUPPORT. The fields of a header word that was put together from them, and what each byte 0 selects. -/

namespace Sys2Proof

@[simp] theorem hdrOp_packHeader (op : BitVec 3) (rsv : BitVec 5) (cmd : Byte) (count : BitVec 16) :
    hdrOp (packHeader op rsv cmd count) = op := by
  apply BitVec.eq_of_getLsbD_eq
  intro i hi
  simp only [hdrOp, packHeader, BitVec.getLsbD_extractLsb', BitVec.getLsbD_append]
  simp [hi]

@[simp] theorem hdrRsv_packHeader (op : BitVec 3) (rsv : BitVec 5) (cmd : Byte) (count : BitVec 16) :
    hdrRsv (packHeader op rsv cmd count) = rsv := by
  apply BitVec.eq_of_getLsbD_eq
  intro i hi
  simp only [hdrRsv, packHeader, BitVec.getLsbD_extractLsb', BitVec.getLsbD_append]
  have h1 : ¬ 3 + i < 3 := by omega
  have h2 : 3 + i - 3 = i := by omega
  simp [hi, h2]

@[simp] theorem hdrCmd_packHeader (op : BitVec 3) (rsv : BitVec 5) (cmd : Byte) (count : BitVec 16) :
    hdrCmd (packHeader op rsv cmd count) = cmd := by
  apply BitVec.eq_of_getLsbD_eq
  intro i hi
  simp only [hdrCmd, packHeader, BitVec.getLsbD_extractLsb', BitVec.getLsbD_append]
  have h1 : ¬ 8 + i < 3 := by omega
  have h2 : ¬ 8 + i - 3 < 5 := by omega
  have h3 : 8 + i - 3 - 5 = i := by omega
  simp [hi, h1, h2, h3]

@[simp] theorem hdrCount_packHeader (op : BitVec 3) (rsv : BitVec 5) (cmd : Byte) (count : BitVec 16) :
    hdrCount (packHeader op rsv cmd count) = count := by
  apply BitVec.eq_of_getLsbD_eq
  intro i hi
  simp only [hdrCount, packHeader, BitVec.getLsbD_extractLsb', BitVec.getLsbD_append]
  have h1 : ¬ 16 + i < 3 := by omega
  have h2 : ¬ 16 + i - 3 < 5 := by omega
  have h3 : ¬ 16 + i - 3 - 5 < 8 := by omega
  have h4 : 16 + i - 3 - 5 - 8 = i := by omega
  simp [hi, h1, h2, h3, h4]

/-- A header word is put together from its own four fields. -/
theorem packHeader_fields (h : HeaderWord) : packHeader (hdrOp h) (hdrRsv h) (hdrCmd h) (hdrCount h) = h := by
  apply BitVec.eq_of_getLsbD_eq
  intro i hi
  simp only [hdrOp, hdrRsv, hdrCmd, hdrCount, packHeader, BitVec.getLsbD_extractLsb', BitVec.getLsbD_append]
  by_cases h1 : i < 3
  · simp [h1]
  by_cases h2 : i - 3 < 5
  · have : 3 + (i - 3) = i := by omega
    simp [h1, h2, this]
  by_cases h3 : i - 3 - 5 < 8
  · have : 8 + (i - 3 - 5) = i := by omega
    simp [h1, h2, h3, this]
  have h4 : i - 3 - 5 - 8 < 16 := by omega
  have : 16 + (i - 3 - 5 - 8) = i := by omega
  simp [h1, h2, h3, h4, this]

@[simp] theorem shapeOf_keyStatus : shapeOf 0x3F#8 = some .keyStatus := rfl

@[simp] theorem shapeOf_broadcast : shapeOf 0x41#8 = some .broadcast := rfl

/-- Every other byte selects no shape. -/
theorem shapeOf_other (b : Byte) (h1 : b ≠ 0x3F#8) (h2 : b ≠ 0x41#8) : shapeOf b = none := by
  simp [shapeOf, h1, h2]

/-- A byte that selects a shape is that shape's code. -/
theorem shapeOf_eq_some {b : Byte} {sh : Shape} (h : shapeOf b = some sh) : b = sh.code := by
  unfold shapeOf at h
  split at h
  · simp_all [Shape.code]
    subst h; rfl
  · split at h
    · simp_all
      subst h; rfl
    · cases h

/-! ## The opcode table's masks, in fields -/

/-- The op field is what the mask of a reserved-op row keeps. -/
theorem and_op_mask (h : HeaderWord) (op : BitVec 3) : h &&& 0x00000007#32 = op.setWidth 32 ↔ hdrOp h = op := by
  constructor
  · intro he
    apply BitVec.eq_of_getLsbD_eq
    intro i hi
    have hb := congrArg (fun w => w.getLsbD i) he
    have hm : ∀ j : Fin 3, (0x00000007#32).getLsbD j = true := by decide
    have := hm ⟨i, hi⟩
    simp only [BitVec.getLsbD_and, this, Bool.and_true, BitVec.getLsbD_setWidth] at hb
    simp only [hdrOp, BitVec.getLsbD_extractLsb', hi, decide_true, Bool.true_and, Nat.zero_add]
    simpa [show i < 32 by omega] using hb
  · rintro rfl
    apply BitVec.eq_of_getLsbD_eq
    intro i hi
    have hm : ∀ j : Fin 32, (0x00000007#32).getLsbD j = decide (j.val < 3) := by decide
    have := hm ⟨i, hi⟩
    simp only at this
    simp only [BitVec.getLsbD_and, this, BitVec.getLsbD_setWidth, hdrOp, BitVec.getLsbD_extractLsb', Nat.zero_add]
    by_cases h3 : i < 3 <;> simp [h3, hi]

/-- The op and rsv fields are what the mask of a codec row keeps. -/
theorem and_row_mask (h : HeaderWord) (op : BitVec 3) :
    h &&& 0x000000FF#32 = op.setWidth 32 ↔ hdrOp h = op ∧ hdrRsv h = 0#5 := by
  constructor
  · intro he
    have hm : ∀ j : Fin 8, (0x000000FF#32).getLsbD j = true := by decide
    have hb : ∀ i < 8, h.getLsbD i = op.getLsbD i := by
      intro i hi
      have hb := congrArg (fun w => w.getLsbD i) he
      have := hm ⟨i, hi⟩
      simp only at this
      simp only [BitVec.getLsbD_and, this, Bool.and_true, BitVec.getLsbD_setWidth] at hb
      simpa [show i < 32 by omega] using hb
    constructor <;> apply BitVec.eq_of_getLsbD_eq <;> intro i hi
    · simp [hdrOp, hi, hb i (by omega)]
    · simp [hdrRsv, hi, hb (3 + i) (by omega)]
  · rintro ⟨rfl, hr⟩
    apply BitVec.eq_of_getLsbD_eq
    intro i hi
    have hm : ∀ j : Fin 32, (0x000000FF#32).getLsbD j = decide (j.val < 8) := by decide
    have := hm ⟨i, hi⟩
    simp only at this
    simp only [BitVec.getLsbD_and, this, BitVec.getLsbD_setWidth, hdrOp, BitVec.getLsbD_extractLsb', Nat.zero_add]
    by_cases h3 : i < 3
    · simp [h3, hi, show i < 8 by omega]
    · by_cases h8 : i < 8
      · have hb := congrArg (fun w => w.getLsbD (i - 3)) hr
        simp only [hdrRsv, BitVec.getLsbD_extractLsb', show 3 + (i - 3) = i by omega] at hb
        simpa [h3, h8, show i - 3 < 5 by omega] using hb
      · simp [h3, h8]

/-- The op, rsv and count fields are what the mask of the START and CANCEL rows keeps. -/
theorem and_count_mask (h : HeaderWord) (op : BitVec 3) :
    h &&& 0xFFFF00FF#32 = op.setWidth 32 ↔ hdrOp h = op ∧ hdrRsv h = 0#5 ∧ hdrCount h = 0#16 := by
  have split : h &&& 0xFFFF00FF#32 = op.setWidth 32 ↔ h &&& 0x000000FF#32 = op.setWidth 32 ∧ hdrCount h = 0#16 := by
    have hm : ∀ j : Fin 32, (0xFFFF00FF#32).getLsbD j = (decide (j.val < 8) || decide (16 ≤ j.val)) := by decide
    have hm' : ∀ j : Fin 32, (0x000000FF#32).getLsbD j = decide (j.val < 8) := by decide
    constructor
    · intro he
      have hb : ∀ i < 32, (h.getLsbD i && (decide (i < 8) || decide (16 ≤ i))) = op.getLsbD i := by
        intro i hi
        have hb := congrArg (fun w => w.getLsbD i) he
        have := hm ⟨i, hi⟩
        simp only at this
        simp only [BitVec.getLsbD_and, this, BitVec.getLsbD_setWidth] at hb
        simpa [hi] using hb
      constructor <;> apply BitVec.eq_of_getLsbD_eq <;> intro i hi
      · have := hm' ⟨i, hi⟩
        simp only at this
        simp only [BitVec.getLsbD_and, this, BitVec.getLsbD_setWidth, hi, decide_true, Bool.true_and]
        have := hb i hi
        by_cases h8 : i < 8
        · simpa [h8] using this
        · have hop : op.getLsbD i = false := BitVec.getLsbD_of_ge _ _ (by omega)
          simp [h8, hop]
      · have := hb (16 + i) (by omega)
        have hop : op.getLsbD (16 + i) = false := BitVec.getLsbD_of_ge _ _ (by omega)
        simp [hop] at this
        simp [hdrCount, hi, this]
    · rintro ⟨he, hc⟩
      apply BitVec.eq_of_getLsbD_eq
      intro i hi
      have h1 := hm ⟨i, hi⟩
      have h2 := hm' ⟨i, hi⟩
      simp only at h1 h2
      have hb := congrArg (fun w => w.getLsbD i) he
      simp only [BitVec.getLsbD_and, h2, BitVec.getLsbD_setWidth] at hb
      simp only [BitVec.getLsbD_and, h1, BitVec.getLsbD_setWidth, ← hb]
      by_cases h16 : 16 ≤ i
      · have hz := congrArg (fun w => w.getLsbD (i - 16)) hc
        simp only [hdrCount, BitVec.getLsbD_extractLsb', show 16 + (i - 16) = i by omega] at hz
        simp [show i - 16 < 16 by omega] at hz
        simp [hz]
      · simp [h16]
  rw [split, and_row_mask, and_assoc]

/-! ## Decoding -/

/-- Request data of the announced length are decoded by the rows. -/
theorem decode_request {h : HeaderWord} {data : List Byte} (hl : data.length = (hdrCount h).toNat) :
    decode (.request h data) = .ok (decodeRow (hdrOp h) (hdrRsv h) (hdrCmd h) data) := by
  simp [decode, hl]

/-- Only request data of the announced length are decoded. -/
theorem decode_request_ok {h : HeaderWord} {data : List Byte} {i : Instr} (hd : decode (.request h data) = .ok i) :
    data.length = (hdrCount h).toNat ∧ i = decodeRow (hdrOp h) (hdrRsv h) (hdrCmd h) data := by
  by_cases hl : data.length = (hdrCount h).toNat
  · rw [decode_request hl] at hd
    exact ⟨hl, (Except.ok.inj hd).symm⟩
  · simp [decode, hl] at hd

/-- A request never decodes to a byte-0 row. -/
theorem decodeRow_not_shape (op : BitVec 3) (rsv : BitVec 5) (cmd : Byte) (data : List Byte) :
    decodeRow op rsv cmd data ≠ .keyStatusShape ∧ decodeRow op rsv cmd data ≠ .broadcastShape ∧
      ∀ b0, decodeRow op rsv cmd data ≠ .unrecognized b0 := by
  unfold decodeRow
  refine ⟨?_, ?_, fun b0 => ?_⟩ <;> split_ifs <;> simp

end Sys2Proof
end

