-- ==== Sys2Proof/Laws/Codec.lean ====
section
/-! SUPPORT. Small lemmas about reads of byte strings, the codec's functions and the layout of a response. -/

namespace Sys2Proof.Machine

/-! ## Reads of byte strings -/

theorem memRead_length (c : List Byte) (addr n : Nat) (h : addr + n ≤ c.length) : (memRead c addr n).length = n := by
  simp only [memRead, List.length_take, List.length_drop]; omega

/-- A read that lies inside the string does not see what is appended to it. -/
theorem memRead_append (c t : List Byte) (addr n : Nat) (h : addr + n ≤ c.length) :
    memRead (c ++ t) addr n = memRead c addr n := by
  simp only [memRead]
  rw [List.drop_append_of_le_length (by omega), List.take_append_of_le_length (by simp; omega)]

/-- A read that lies inside the first `m` bytes sees only those. -/
theorem memRead_take (c : List Byte) (m addr n : Nat) (h : addr + n ≤ m) :
    memRead (c.take m) addr n = memRead c addr n := by
  simp only [memRead, List.drop_take, List.take_take]
  congr 1; omega

@[simp] theorem checksumBytes_length (k : Half) : (checksumBytes k).length = 2 := rfl

/-- The two checksum bytes say which checksum it is. -/
theorem u16_lo8_hi8 (k : Half) : u16 (lo8 k) (hi8 k) = k := by
  apply BitVec.eq_of_getLsbD_eq
  intro i hi
  simp only [u16, lo8, hi8, BitVec.getLsbD_append, BitVec.getLsbD_extractLsb']
  by_cases h1 : i < 8
  · simp [h1]
  · have h2 : 8 + (i - 8) = i := by omega
    have h3 : i - 8 < 8 := by omega
    simp [h1, h2, h3]

theorem checksumBytes_inj {k k' : Half} (h : checksumBytes k = checksumBytes k') : k = k' := by
  simp only [checksumBytes, List.cons.injEq, and_true] at h
  rw [← u16_lo8_hi8 k, ← u16_lo8_hi8 k', h.1, h.2]

/-! ## DECODE -/

theorem decodeChunk_cons (b0 : Byte) (rest : List Byte) (sh : Shape) (h : shapeOf b0 = some sh) :
    decodeChunk (b0 :: rest) = extractShape sh (b0 :: rest) := by
  simp [decodeChunk, h]

theorem decodeChunk_unknown (b0 : Byte) (rest : List Byte) (h : shapeOf b0 = none) :
    decodeChunk (b0 :: rest) = .unrecognized := by
  simp [decodeChunk, h]

theorem extractShape_short (sh : Shape) (c : List Byte) (h : c.length < 2 + sh.payloadLen) :
    extractShape sh c = .incomplete := by
  simp [extractShape, payloadOffset, h]

theorem extractShape_long (sh : Shape) (c : List Byte) (h : 2 + sh.payloadLen ≤ c.length) :
    extractShape sh c = .frame ⟨sh.code, BitVec.ofNat 8 sh.payloadLen, memRead c 2 sh.payloadLen, 0#16⟩ := by
  have h' : ¬ c.length < 2 + sh.payloadLen := by omega
  simp [extractShape, payloadOffset, h']

/-- What DECODE answers for a byte string is what its shape's row answers (R102, R76): the three cases. -/
theorem decodeChunk_cases (c : List Byte) :
    (c = [] ∧ decodeChunk c = .incomplete) ∨
    (∃ b0 rest sh, c = b0 :: rest ∧ shapeOf b0 = some sh ∧ decodeChunk c = extractShape sh c) ∨
    (∃ b0 rest, c = b0 :: rest ∧ shapeOf b0 = none ∧ decodeChunk c = .unrecognized) := by
  cases c with
  | nil => exact .inl ⟨rfl, rfl⟩
  | cons b0 rest =>
    cases h : shapeOf b0 with
    | none => exact .inr (.inr ⟨b0, rest, rfl, h, decodeChunk_unknown b0 rest h⟩)
    | some sh => exact .inr (.inl ⟨b0, rest, sh, rfl, h, decodeChunk_cons b0 rest sh h⟩)

/-! ## ENCODE -/

theorem encodeFrame_ok (ck : List Byte → Half) (cmd : Byte) (p : List Byte) (h : p.length ≤ 255) :
    encodeFrame ck cmd p = .ok (cmd :: BitVec.ofNat 8 p.length ::
      (p ++ checksumBytes (ck (cmd :: BitVec.ofNat 8 p.length :: p)))) := by
  have h' : ¬ 255 < p.length := by omega
  simp [encodeFrame, maxPayload, h']

theorem encodeFrame_error (ck : List Byte → Half) (cmd : Byte) (p : List Byte) (h : 255 < p.length) :
    encodeFrame ck cmd p = .error .payloadTooLarge := by
  simp [encodeFrame, maxPayload, h]

/-! ## VALIDATE -/

/-- VALIDATE of a byte string that holds a whole frame of the length it states. -/
theorem validateChunk_whole (ck : List Byte → Half) (c0 len : Byte) (p k t : List Byte) (hp : p.length = len.toNat)
    (hk : k.length = 2) :
    validateChunk ck (c0 :: len :: (p ++ k ++ t)) =
      if k = checksumBytes (ck (c0 :: len :: p)) then .valid else .invalid := by
  have h1 : ¬ (c0 :: len :: (p ++ k ++ t)).length < 4 + len.toNat := by
    simp only [List.length_cons, List.length_append]; omega
  have h2 : memRead (c0 :: len :: (p ++ k ++ t)) (2 + len.toNat) 2 = k := by
    have : c0 :: len :: (p ++ k ++ t) = (c0 :: len :: p) ++ (k ++ t) := by simp
    rw [this, memRead, List.drop_left' (by simp; omega), List.take_left' hk]
  have h3 : memRead (c0 :: len :: (p ++ k ++ t)) 0 (2 + len.toNat) = c0 :: len :: p := by
    have : c0 :: len :: (p ++ k ++ t) = (c0 :: len :: p) ++ (k ++ t) := by simp
    rw [this, memRead, List.drop_zero, List.take_left' (by simp; omega)]
  simp only [validateChunk, wirePayloadLen, h1, if_false, h2, h3]

/-- VALIDATE of a byte string that holds no whole frame. -/
theorem validateChunk_short (ck : List Byte → Half) (c0 len : Byte) (rest : List Byte)
    (h : (c0 :: len :: rest).length < 4 + len.toNat) : validateChunk ck (c0 :: len :: rest) = .short := by
  simp only [validateChunk, wirePayloadLen, h, if_true]

theorem validateChunk_tiny (ck : List Byte → Half) (c : List Byte) (h : c.length < 2) :
    validateChunk ck c = .short := by
  match c, h with
  | [], _ => rfl
  | [_], _ => rfl

/-! ## The layout of a response (R82) -/

@[simp] theorem make_data (st : Status) (crc : CrcStatus) (data : List Byte) : (Response.make st crc data).data = data :=
  rfl

@[simp] theorem make_statusField (st : Status) (crc : CrcStatus) (data : List Byte) :
    (Response.make st crc data).statusField = st.code := by
  apply BitVec.eq_of_getLsbD_eq
  intro i hi
  simp only [Response.statusField, Response.make, BitVec.getLsbD_extractLsb', BitVec.getLsbD_append]
  simp [hi]

@[simp] theorem make_crcField (st : Status) (crc : CrcStatus) (data : List Byte) :
    (Response.make st crc data).crcField = crc.code := by
  apply BitVec.eq_of_getLsbD_eq
  intro i hi
  simp only [Response.crcField, Response.make, BitVec.getLsbD_extractLsb', BitVec.getLsbD_append]
  have h1 : ¬ 8 + i < 8 := by omega
  have h2 : 8 + i - 8 = i := by omega
  simp [hi, h2]

@[simp] theorem make_zeroField (st : Status) (crc : CrcStatus) (data : List Byte) :
    (Response.make st crc data).zeroField = 0#6 := by
  apply BitVec.eq_of_getLsbD_eq
  intro i hi
  simp only [Response.zeroField, Response.make, BitVec.getLsbD_extractLsb', BitVec.getLsbD_append]
  have h1 : ¬ 10 + i < 8 := by omega
  have h2 : ¬ 10 + i - 8 < 2 := by omega
  have h3 : 10 + i - 8 - 2 < 6 := by omega
  simp [hi, h1, h2, h3]

@[simp] theorem make_rcountField (st : Status) (crc : CrcStatus) (data : List Byte) :
    (Response.make st crc data).rcountField = BitVec.ofNat 16 data.length := by
  apply BitVec.eq_of_getLsbD_eq
  intro i hi
  simp only [Response.rcountField, Response.make, BitVec.getLsbD_extractLsb', BitVec.getLsbD_append]
  have h1 : ¬ 16 + i < 8 := by omega
  have h2 : ¬ 16 + i - 8 < 2 := by omega
  have h3 : ¬ 16 + i - 8 - 2 < 6 := by omega
  have h4 : 16 + i - 8 - 2 - 6 = i := by omega
  simp [hi, h1, h2, h3, h4]

/-- Every status code is one of the six (R190). -/
theorem status_code_le (st : Status) : st.code.toNat ≤ 5 := by cases st <;> decide

end Sys2Proof.Machine
end

