-- ==== Sys2Proof/Laws/PerInstr.lean ====
section
/-! SUPPORT. Per instruction: the encoding of an instruction matches its own row of spec/opcode_table.json. -/

namespace Sys2Proof.Laws.RowMatch

/-- The mask of an instruction's row in the opcode table. -/
def mask : Instr → HeaderWord
  | .encode _ _ => 0x000000FF#32
  | .decode _ _ => 0x000000FF#32
  | .validate _ _ => 0x000000FF#32
  | .start _ => 0xFFFF00FF#32
  | .cancel _ => 0xFFFF00FF#32
  | .reservedOp5 _ _ _ => 0x00000007#32
  | .reservedOp6 _ _ _ => 0x00000007#32
  | .reservedOp7 _ _ _ => 0x00000007#32
  | .illegalRequest _ _ _ _ => 0x00000000#32
  | .keyStatusShape => 0xFF#32
  | .broadcastShape => 0xFF#32
  | .unrecognized _ => 0x00#32

/-- The value that the row gives the masked bits. -/
def pattern : Instr → HeaderWord
  | .encode _ _ => 0x00000000#32
  | .decode _ _ => 0x00000001#32
  | .validate _ _ => 0x00000002#32
  | .start _ => 0x00000003#32
  | .cancel _ => 0x00000004#32
  | .reservedOp5 _ _ _ => 0x00000005#32
  | .reservedOp6 _ _ _ => 0x00000006#32
  | .reservedOp7 _ _ _ => 0x00000007#32
  | .illegalRequest _ _ _ _ => 0x00000000#32
  | .keyStatusShape => 0x3F#32
  | .broadcastShape => 0x41#32
  | .unrecognized _ => 0x00#32

/-- The bits that are held against the row: the header of a request, or byte 0. -/
def bits : Encoded → HeaderWord
  | .request h _ => h
  | .byte0 b0 => b0.setWidth 32

/-- The words that the encoder gives the instruction match its row. -/
def Statement (i : Instr) : Prop := bits (Sys2Proof.encode i) &&& mask i = pattern i

theorem encode (cmd : Byte) (payload : List Byte) : Statement (.encode cmd payload) :=
  (and_row_mask _ 0#3).mpr ⟨hdrOp_packHeader _ _ _ _, hdrRsv_packHeader _ _ _ _⟩

theorem decode (cmd : Byte) (chunk : List Byte) : Statement (.decode cmd chunk) :=
  (and_row_mask _ 1#3).mpr ⟨hdrOp_packHeader _ _ _ _, hdrRsv_packHeader _ _ _ _⟩

theorem validate (cmd : Byte) (chunk : List Byte) : Statement (.validate cmd chunk) :=
  (and_row_mask _ 2#3).mpr ⟨hdrOp_packHeader _ _ _ _, hdrRsv_packHeader _ _ _ _⟩

theorem start (cmd : Byte) : Statement (.start cmd) :=
  (and_count_mask _ 3#3).mpr ⟨hdrOp_packHeader _ _ _ _, hdrRsv_packHeader _ _ _ _, hdrCount_packHeader _ _ _ _⟩

theorem cancel (cmd : Byte) : Statement (.cancel cmd) :=
  (and_count_mask _ 4#3).mpr ⟨hdrOp_packHeader _ _ _ _, hdrRsv_packHeader _ _ _ _, hdrCount_packHeader _ _ _ _⟩

theorem reservedOp5 (rsv : BitVec 5) (cmd : Byte) (data : List Byte) : Statement (.reservedOp5 rsv cmd data) :=
  (and_op_mask _ 5#3).mpr (hdrOp_packHeader _ _ _ _)

theorem reservedOp6 (rsv : BitVec 5) (cmd : Byte) (data : List Byte) : Statement (.reservedOp6 rsv cmd data) :=
  (and_op_mask _ 6#3).mpr (hdrOp_packHeader _ _ _ _)

theorem reservedOp7 (rsv : BitVec 5) (cmd : Byte) (data : List Byte) : Statement (.reservedOp7 rsv cmd data) :=
  (and_op_mask _ 7#3).mpr (hdrOp_packHeader _ _ _ _)

theorem illegalRequest (op : BitVec 3) (rsv : BitVec 5) (cmd : Byte) (data : List Byte) :
    Statement (.illegalRequest op rsv cmd data) := by
  simp [Statement, mask, pattern]

theorem keyStatusShape : Statement .keyStatusShape := rfl

theorem broadcastShape : Statement .broadcastShape := rfl

theorem unrecognized (b0 : Byte) : Statement (.unrecognized b0) := by
  simp [Statement, mask, pattern]

end Sys2Proof.Laws.RowMatch
end

