-- ==== Sys2Proof/Laws/State.lean ====
section
/-! SUPPORT. What each shared update of State does to each field, and what beginning a step does. -/

namespace Sys2Proof.Machine

/-! ## respond -/

@[simp] theorem respond_st (r : Response) (s : State) : (respond r s).st = s.st := rfl
@[simp] theorem respond_chunk (r : Response) (s : State) : (respond r s).chunk = s.chunk := rfl
@[simp] theorem respond_res (r : Response) (s : State) : (respond r s).res = s.res := rfl
@[simp] theorem respond_crcStatus (r : Response) (s : State) : (respond r s).crcStatus = s.crcStatus := rfl
@[simp] theorem respond_faultCause (r : Response) (s : State) : (respond r s).faultCause = s.faultCause := rfl
@[simp] theorem respond_reconnectReq (r : Response) (s : State) : (respond r s).reconnectReq = s.reconnectReq := rfl
@[simp] theorem respond_idleTimer (r : Response) (s : State) : (respond r s).idleTimer = s.idleTimer := rfl
@[simp] theorem respond_settleTimer (r : Response) (s : State) : (respond r s).settleTimer = s.settleTimer := rfl
@[simp] theorem respond_params (r : Response) (s : State) : (respond r s).params = s.params := rfl
@[simp] theorem respond_txOpen (r : Response) (s : State) : (respond r s).txOpen = s.txOpen := rfl
@[simp] theorem respond_rxbuf (r : Response) (s : State) : (respond r s).rxbuf = s.rxbuf := rfl
@[simp] theorem respond_wire (r : Response) (s : State) : (respond r s).wire = s.wire := rfl
@[simp] theorem respond_dispatchDone (r : Response) (s : State) : (respond r s).dispatchDone = s.dispatchDone := rfl
@[simp] theorem respond_reconnectDone (r : Response) (s : State) : (respond r s).reconnectDone = s.reconnectDone := rfl
@[simp] theorem respond_response (r : Response) (s : State) : (respond r s).response = some r := rfl
@[simp] theorem respond_event (r : Response) (s : State) : (respond r s).event = s.event := rfl
@[simp] theorem respond_turns (r : Response) (s : State) : (respond r s).turns = s.turns := rfl
@[simp] theorem respond_drawn (r : Response) (s : State) : (respond r s).drawn = s.drawn := rfl

/-! ## txClose -/

@[simp] theorem txClose_st (s : State) : (txClose s).st = s.st := rfl
@[simp] theorem txClose_chunk (s : State) : (txClose s).chunk = s.chunk := rfl
@[simp] theorem txClose_res (s : State) : (txClose s).res = s.res := rfl
@[simp] theorem txClose_crcStatus (s : State) : (txClose s).crcStatus = s.crcStatus := rfl
@[simp] theorem txClose_faultCause (s : State) : (txClose s).faultCause = s.faultCause := rfl
@[simp] theorem txClose_reconnectReq (s : State) : (txClose s).reconnectReq = s.reconnectReq := rfl
@[simp] theorem txClose_idleTimer (s : State) : (txClose s).idleTimer = s.idleTimer := rfl
@[simp] theorem txClose_settleTimer (s : State) : (txClose s).settleTimer = s.settleTimer := rfl
@[simp] theorem txClose_params (s : State) : (txClose s).params = s.params := rfl
@[simp] theorem txClose_txOpen (s : State) : (txClose s).txOpen = false := rfl
@[simp] theorem txClose_rxbuf (s : State) : (txClose s).rxbuf = s.rxbuf := rfl
@[simp] theorem txClose_wire (s : State) : (txClose s).wire = s.wire := rfl
@[simp] theorem txClose_dispatchDone (s : State) : (txClose s).dispatchDone = s.dispatchDone := rfl
@[simp] theorem txClose_reconnectDone (s : State) : (txClose s).reconnectDone = s.reconnectDone := rfl
@[simp] theorem txClose_response (s : State) : (txClose s).response = s.response := rfl
@[simp] theorem txClose_event (s : State) : (txClose s).event = s.event := rfl
@[simp] theorem txClose_turns (s : State) : (txClose s).turns = s.turns := rfl
@[simp] theorem txClose_drawn (s : State) : (txClose s).drawn = s.drawn := rfl

/-! ## dropChunk -/

@[simp] theorem dropChunk_st (s : State) : (dropChunk s).st = s.st := rfl
@[simp] theorem dropChunk_chunk (s : State) : (dropChunk s).chunk = [] := rfl
@[simp] theorem dropChunk_res (s : State) : (dropChunk s).res = none := rfl
@[simp] theorem dropChunk_crcStatus (s : State) : (dropChunk s).crcStatus = .none := rfl
@[simp] theorem dropChunk_faultCause (s : State) : (dropChunk s).faultCause = s.faultCause := rfl
@[simp] theorem dropChunk_reconnectReq (s : State) : (dropChunk s).reconnectReq = s.reconnectReq := rfl
@[simp] theorem dropChunk_idleTimer (s : State) : (dropChunk s).idleTimer = s.idleTimer := rfl
@[simp] theorem dropChunk_settleTimer (s : State) : (dropChunk s).settleTimer = s.settleTimer := rfl
@[simp] theorem dropChunk_params (s : State) : (dropChunk s).params = s.params := rfl
@[simp] theorem dropChunk_txOpen (s : State) : (dropChunk s).txOpen = s.txOpen := rfl
@[simp] theorem dropChunk_rxbuf (s : State) : (dropChunk s).rxbuf = s.rxbuf := rfl
@[simp] theorem dropChunk_wire (s : State) : (dropChunk s).wire = s.wire := rfl
@[simp] theorem dropChunk_dispatchDone (s : State) : (dropChunk s).dispatchDone = s.dispatchDone := rfl
@[simp] theorem dropChunk_reconnectDone (s : State) : (dropChunk s).reconnectDone = s.reconnectDone := rfl
@[simp] theorem dropChunk_response (s : State) : (dropChunk s).response = s.response := rfl
@[simp] theorem dropChunk_event (s : State) : (dropChunk s).event = s.event := rfl
@[simp] theorem dropChunk_turns (s : State) : (dropChunk s).turns = s.turns := rfl
@[simp] theorem dropChunk_drawn (s : State) : (dropChunk s).drawn = s.drawn := rfl

/-! ## exitLoop -/

@[simp] theorem exitLoop_st (reason : ExitReason) (s : State) : (exitLoop reason s).st = .exited := rfl
@[simp] theorem exitLoop_chunk (reason : ExitReason) (s : State) : (exitLoop reason s).chunk = s.chunk := rfl
@[simp] theorem exitLoop_res (reason : ExitReason) (s : State) : (exitLoop reason s).res = s.res := rfl
@[simp] theorem exitLoop_crcStatus (reason : ExitReason) (s : State) : (exitLoop reason s).crcStatus = s.crcStatus := rfl
@[simp] theorem exitLoop_faultCause (reason : ExitReason) (s : State) : (exitLoop reason s).faultCause = s.faultCause := rfl
@[simp] theorem exitLoop_reconnectReq (reason : ExitReason) (s : State) : (exitLoop reason s).reconnectReq = s.reconnectReq := rfl
@[simp] theorem exitLoop_idleTimer (reason : ExitReason) (s : State) : (exitLoop reason s).idleTimer = s.idleTimer := rfl
@[simp] theorem exitLoop_settleTimer (reason : ExitReason) (s : State) : (exitLoop reason s).settleTimer = s.settleTimer := rfl
@[simp] theorem exitLoop_params (reason : ExitReason) (s : State) : (exitLoop reason s).params = s.params := rfl
@[simp] theorem exitLoop_txOpen (reason : ExitReason) (s : State) : (exitLoop reason s).txOpen = s.txOpen := rfl
@[simp] theorem exitLoop_rxbuf (reason : ExitReason) (s : State) : (exitLoop reason s).rxbuf = s.rxbuf := rfl
@[simp] theorem exitLoop_wire (reason : ExitReason) (s : State) : (exitLoop reason s).wire = s.wire := rfl
@[simp] theorem exitLoop_dispatchDone (reason : ExitReason) (s : State) : (exitLoop reason s).dispatchDone = s.dispatchDone := rfl
@[simp] theorem exitLoop_reconnectDone (reason : ExitReason) (s : State) : (exitLoop reason s).reconnectDone = s.reconnectDone := rfl
@[simp] theorem exitLoop_response (reason : ExitReason) (s : State) : (exitLoop reason s).response = s.response := rfl
@[simp] theorem exitLoop_event (reason : ExitReason) (s : State) : (exitLoop reason s).event = some (.loopExit reason) := rfl
@[simp] theorem exitLoop_turns (reason : ExitReason) (s : State) : (exitLoop reason s).turns = s.turns := rfl
@[simp] theorem exitLoop_drawn (reason : ExitReason) (s : State) : (exitLoop reason s).drawn = s.drawn := rfl

/-! ## tearDown -/

@[simp] theorem tearDown_st (s : State) : (tearDown s).st = .exited := rfl
@[simp] theorem tearDown_chunk (s : State) : (tearDown s).chunk = [] := rfl
@[simp] theorem tearDown_res (s : State) : (tearDown s).res = none := rfl
@[simp] theorem tearDown_crcStatus (s : State) : (tearDown s).crcStatus = .none := rfl
@[simp] theorem tearDown_faultCause (s : State) : (tearDown s).faultCause = s.faultCause := rfl
@[simp] theorem tearDown_reconnectReq (s : State) : (tearDown s).reconnectReq = false := rfl
@[simp] theorem tearDown_idleTimer (s : State) : (tearDown s).idleTimer = .stopped := rfl
@[simp] theorem tearDown_settleTimer (s : State) : (tearDown s).settleTimer = .stopped := rfl
@[simp] theorem tearDown_params (s : State) : (tearDown s).params = s.params := rfl
@[simp] theorem tearDown_txOpen (s : State) : (tearDown s).txOpen = s.txOpen := rfl
@[simp] theorem tearDown_rxbuf (s : State) : (tearDown s).rxbuf = s.rxbuf := rfl
@[simp] theorem tearDown_wire (s : State) : (tearDown s).wire = s.wire := rfl
@[simp] theorem tearDown_dispatchDone (s : State) : (tearDown s).dispatchDone = false := rfl
@[simp] theorem tearDown_reconnectDone (s : State) : (tearDown s).reconnectDone = false := rfl
@[simp] theorem tearDown_response (s : State) : (tearDown s).response = s.response := rfl
@[simp] theorem tearDown_event (s : State) : (tearDown s).event = some (.loopExit .cancelled) := rfl
@[simp] theorem tearDown_turns (s : State) : (tearDown s).turns = s.turns := rfl
@[simp] theorem tearDown_drawn (s : State) : (tearDown s).drawn = s.drawn := rfl

/-! ## raiseTransportFault -/

@[simp] theorem raiseTransportFault_st (cause : FaultCause) (s : State) : (raiseTransportFault cause s).st = .fault := rfl
@[simp] theorem raiseTransportFault_chunk (cause : FaultCause) (s : State) : (raiseTransportFault cause s).chunk = [] := rfl
@[simp] theorem raiseTransportFault_res (cause : FaultCause) (s : State) : (raiseTransportFault cause s).res = none := rfl
@[simp] theorem raiseTransportFault_crcStatus (cause : FaultCause) (s : State) : (raiseTransportFault cause s).crcStatus = .none := rfl
@[simp] theorem raiseTransportFault_faultCause (cause : FaultCause) (s : State) : (raiseTransportFault cause s).faultCause = cause := rfl
@[simp] theorem raiseTransportFault_reconnectReq (cause : FaultCause) (s : State) : (raiseTransportFault cause s).reconnectReq = true := rfl
@[simp] theorem raiseTransportFault_idleTimer (cause : FaultCause) (s : State) : (raiseTransportFault cause s).idleTimer = s.idleTimer := rfl
@[simp] theorem raiseTransportFault_settleTimer (cause : FaultCause) (s : State) : (raiseTransportFault cause s).settleTimer = s.settleTimer := rfl
@[simp] theorem raiseTransportFault_params (cause : FaultCause) (s : State) : (raiseTransportFault cause s).params = s.params := rfl
@[simp] theorem raiseTransportFault_txOpen (cause : FaultCause) (s : State) : (raiseTransportFault cause s).txOpen = false := rfl
@[simp] theorem raiseTransportFault_rxbuf (cause : FaultCause) (s : State) : (raiseTransportFault cause s).rxbuf = s.rxbuf := rfl
@[simp] theorem raiseTransportFault_wire (cause : FaultCause) (s : State) : (raiseTransportFault cause s).wire = s.wire := rfl
@[simp] theorem raiseTransportFault_dispatchDone (cause : FaultCause) (s : State) : (raiseTransportFault cause s).dispatchDone = s.dispatchDone := rfl
@[simp] theorem raiseTransportFault_reconnectDone (cause : FaultCause) (s : State) : (raiseTransportFault cause s).reconnectDone = s.reconnectDone := rfl
@[simp] theorem raiseTransportFault_response (cause : FaultCause) (s : State) : (raiseTransportFault cause s).response = s.response := rfl
@[simp] theorem raiseTransportFault_event (cause : FaultCause) (s : State) : (raiseTransportFault cause s).event = some (.disconnect cause) := rfl
@[simp] theorem raiseTransportFault_turns (cause : FaultCause) (s : State) : (raiseTransportFault cause s).turns = s.turns := rfl
@[simp] theorem raiseTransportFault_drawn (cause : FaultCause) (s : State) : (raiseTransportFault cause s).drawn = s.drawn := rfl

/-! ## faultReturn -/

@[simp] theorem faultReturn_st (s : State) : (faultReturn s).st = .poll := rfl
@[simp] theorem faultReturn_chunk (s : State) : (faultReturn s).chunk = s.chunk := rfl
@[simp] theorem faultReturn_res (s : State) : (faultReturn s).res = s.res := rfl
@[simp] theorem faultReturn_crcStatus (s : State) : (faultReturn s).crcStatus = s.crcStatus := rfl
@[simp] theorem faultReturn_faultCause (s : State) : (faultReturn s).faultCause = s.faultCause := rfl
@[simp] theorem faultReturn_reconnectReq (s : State) : (faultReturn s).reconnectReq = false := rfl
@[simp] theorem faultReturn_idleTimer (s : State) : (faultReturn s).idleTimer = s.idleTimer := rfl
@[simp] theorem faultReturn_settleTimer (s : State) : (faultReturn s).settleTimer = s.settleTimer := rfl
@[simp] theorem faultReturn_params (s : State) : (faultReturn s).params = s.params := rfl
@[simp] theorem faultReturn_txOpen (s : State) : (faultReturn s).txOpen = s.txOpen := rfl
@[simp] theorem faultReturn_rxbuf (s : State) : (faultReturn s).rxbuf = s.rxbuf := rfl
@[simp] theorem faultReturn_wire (s : State) : (faultReturn s).wire = s.wire := rfl
@[simp] theorem faultReturn_dispatchDone (s : State) : (faultReturn s).dispatchDone = s.dispatchDone := rfl
@[simp] theorem faultReturn_reconnectDone (s : State) : (faultReturn s).reconnectDone = false := rfl
@[simp] theorem faultReturn_response (s : State) : (faultReturn s).response = s.response := rfl
@[simp] theorem faultReturn_event (s : State) : (faultReturn s).event = s.event := rfl
@[simp] theorem faultReturn_turns (s : State) : (faultReturn s).turns = s.turns := rfl
@[simp] theorem faultReturn_drawn (s : State) : (faultReturn s).drawn = s.drawn := rfl

/-! ## applyReset -/

@[simp] theorem applyReset_st (s : State) : (applyReset s).st = .reset := rfl
@[simp] theorem applyReset_chunk (s : State) : (applyReset s).chunk = [] := rfl
@[simp] theorem applyReset_res (s : State) : (applyReset s).res = none := rfl
@[simp] theorem applyReset_crcStatus (s : State) : (applyReset s).crcStatus = .none := rfl
@[simp] theorem applyReset_faultCause (s : State) : (applyReset s).faultCause = .none := rfl
@[simp] theorem applyReset_reconnectReq (s : State) : (applyReset s).reconnectReq = false := rfl
@[simp] theorem applyReset_idleTimer (s : State) : (applyReset s).idleTimer = .stopped := rfl
@[simp] theorem applyReset_settleTimer (s : State) : (applyReset s).settleTimer = .stopped := rfl
@[simp] theorem applyReset_params (s : State) : (applyReset s).params = s.params := rfl
@[simp] theorem applyReset_txOpen (s : State) : (applyReset s).txOpen = s.txOpen := rfl
@[simp] theorem applyReset_rxbuf (s : State) : (applyReset s).rxbuf = s.rxbuf := rfl
@[simp] theorem applyReset_wire (s : State) : (applyReset s).wire = s.wire := rfl
@[simp] theorem applyReset_dispatchDone (s : State) : (applyReset s).dispatchDone = false := rfl
@[simp] theorem applyReset_reconnectDone (s : State) : (applyReset s).reconnectDone = false := rfl
@[simp] theorem applyReset_response (s : State) : (applyReset s).response = s.response := rfl
@[simp] theorem applyReset_event (s : State) : (applyReset s).event = s.event := rfl
@[simp] theorem applyReset_turns (s : State) : (applyReset s).turns = s.turns := rfl
@[simp] theorem applyReset_drawn (s : State) : (applyReset s).drawn = s.drawn := rfl

/-! ## State.begin -/

@[simp] theorem begin_st (s : State) : s.begin.st = s.st := by unfold State.begin; split <;> rfl
@[simp] theorem begin_chunk (s : State) : s.begin.chunk = s.chunk := by unfold State.begin; split <;> rfl
@[simp] theorem begin_res (s : State) : s.begin.res = s.res := by unfold State.begin; split <;> rfl
@[simp] theorem begin_crcStatus (s : State) : s.begin.crcStatus = s.crcStatus := by unfold State.begin; split <;> rfl
@[simp] theorem begin_faultCause (s : State) : s.begin.faultCause = s.faultCause := by unfold State.begin; split <;> rfl
@[simp] theorem begin_reconnectReq (s : State) : s.begin.reconnectReq = s.reconnectReq := by unfold State.begin; split <;> rfl
@[simp] theorem begin_idleTimer (s : State) : s.begin.idleTimer = s.idleTimer := by unfold State.begin; split <;> rfl
@[simp] theorem begin_settleTimer (s : State) : s.begin.settleTimer = s.settleTimer := by unfold State.begin; split <;> rfl
@[simp] theorem begin_params (s : State) : s.begin.params = s.params := by unfold State.begin; split <;> rfl
@[simp] theorem begin_txOpen (s : State) : s.begin.txOpen = s.txOpen := by unfold State.begin; split <;> rfl
@[simp] theorem begin_rxbuf (s : State) : s.begin.rxbuf = s.rxbuf := by unfold State.begin; split <;> rfl
@[simp] theorem begin_wire (s : State) : s.begin.wire = s.wire := by unfold State.begin; split <;> rfl
@[simp] theorem begin_dispatchDone (s : State) : s.begin.dispatchDone = s.dispatchDone := by unfold State.begin; split <;> rfl
@[simp] theorem begin_reconnectDone (s : State) : s.begin.reconnectDone = s.reconnectDone := by unfold State.begin; split <;> rfl
@[simp] theorem begin_response (s : State) : s.begin.response = none := by unfold State.begin; split <;> rfl
@[simp] theorem begin_event (s : State) : s.begin.event = none := by unfold State.begin; split <;> rfl

/-- A listed turn is the next one. -/
@[simp] theorem nextTurn_cons (s : State) (t : Turn) (ts : List Turn) (h : s.turns = t :: ts) : s.nextTurn = t := by
  simp [State.nextTurn, h]

/-- With no turn listed the next one is free. -/
theorem nextTurn_nil (s : State) (h : s.turns = []) : s.nextTurn = Config.freeTurn s.drawn := by
  simp [State.nextTurn, h]

/-- Beginning a step uses up the listed turn. -/
theorem begin_turns_cons (s : State) (t : Turn) (ts : List Turn) (h : s.turns = t :: ts) : s.begin.turns = ts := by
  simp [State.begin, h]

/-- FRAME_OUT looks at ST, RES and CRC_STATUS alone. -/
@[simp] theorem begin_frameOut (s : State) : s.begin.frameOut = s.frameOut := by simp [State.frameOut]

@[simp] theorem begin_frameOutValid (s : State) : s.begin.frameOutValid = s.frameOutValid := by
  simp [State.frameOutValid]

@[simp] theorem begin_offersMalformedFrame (s : State) : s.begin.offersMalformedFrame = s.offersMalformedFrame := by
  simp [State.offersMalformedFrame]

end Sys2Proof.Machine
end

