-- ==== Sys2Proof/Laws/Step.lean ====
section
/-! SUPPORT. What a step can do, said once: one lemma for a request, one for each scanner state, and the inversion
lemma of a step that the invariants cite. -/

namespace Sys2Proof.Machine

/-! ## Requests -/

/-- What a request can do: it answers and changes nothing else, it starts the loop, or it tears the loop down. -/
inductive RequestEffect (i : Instr) (s : State) : State → Prop where
  | answered (r : Response) : (∀ cmd, i = .start cmd → s.st ≠ .reset) → (∀ cmd, i = .cancel cmd → s.st = .exited) →
      (∀ k, s.st = .unused k → (∀ cmd, i ≠ .start cmd) ∧ ∀ cmd, i ≠ .cancel cmd) → RequestEffect i s (respond r s)
  | started (cmd : Byte) : i = .start cmd → s.st = .reset →
      RequestEffect i s (respond (Response.bare .ok) { s with st := .poll })
  | cancelled (cmd : Byte) : i = .cancel cmd → s.st ≠ .exited → (∀ k, s.st ≠ .unused k) →
      RequestEffect i s (respond (Response.bare .ok) (tearDown s))

theorem exec_request_effect {i : Instr} {s t : State} (hs : i ≠ .keyStatusShape ∧ i ≠ .broadcastShape ∧
    ∀ b0, i ≠ .unrecognized b0) (h : exec i s = .next t) : RequestEffect i s t := by
  cases i with
  | start cmd =>
    simp only [exec, execStart] at h
    split at h <;> cases h
    · exact .started cmd rfl ‹_›
    · exact .answered _ (fun _ _ => by assumption) (by simp) (fun k hk => by simp_all)
  | cancel cmd =>
    simp only [exec, execCancel] at h
    split at h <;> cases h
    · exact .answered _ (by simp) (fun _ _ => by assumption) (fun k hk => by simp_all)
    · exact .cancelled cmd rfl (by assumption) (fun k hk => by simp_all)
  | keyStatusShape => exact absurd rfl hs.1
  | broadcastShape => exact absurd rfl hs.2.1
  | unrecognized b0 => exact absurd rfl (hs.2.2 b0)
  | _ =>
    simp only [exec, execEncode, execDecode, execValidate, execReservedOp5, execReservedOp6, execReservedOp7,
      execIllegalRequest, badOp] at h
    cases h
    exact .answered _ (by simp) (by simp) (by simp)

/-- A request is never refused, and faults on an unused ST alone. -/
theorem exec_request_total (i : Instr) (s : State) :
    (∃ t, exec i s = .next t) ∨ (exec i s = .fault .badState ∧ ∃ k, s.st = .unused k) := by
  cases i with
  | start cmd =>
    simp only [exec, execStart]
    split
    · exact .inl ⟨_, rfl⟩
    · exact .inr ⟨rfl, _, ‹_›⟩
    · exact .inl ⟨_, rfl⟩
  | cancel cmd =>
    simp only [exec, execCancel]
    split
    · exact .inl ⟨_, rfl⟩
    · exact .inr ⟨rfl, _, ‹_›⟩
    · exact .inl ⟨_, rfl⟩
  | _ => exact .inl ⟨_, rfl⟩

/-! ## The classify step -/

/-- The byte-0 rows are the three ways of one step: in S_CLASSIFY the scanner records DECODE's verdict on CHUNK. -/
theorem classifyStep_eq (s : State) : classifyStep s = .next (recordVerdict (decodeChunk s.chunk) s) := by
  unfold classifyStep
  split
  · simp [‹s.chunk = []›, decodeChunk]
  · rename_i b0 rest hc
    simp only [runEncoded, decode, decodeShape]
    cases hsh : shapeOf b0 with
    | none =>
      rw [hc, decodeChunk_unknown b0 rest hsh]
      rfl
    | some sh =>
      rw [hc, decodeChunk_cons b0 rest sh hsh]
      cases sh <;> simp [exec, execKeyStatusShape, execBroadcastShape, hc]

theorem recordVerdict_flush (v : Verdict) (s : State) (h : needsFlush s.params v = true) :
    recordVerdict v s =
      { s with res := some v, crcStatus := validateChunk Config.checksum16 s.chunk, st := .flush } := by
  simp [recordVerdict, h]

theorem recordVerdict_drop (v : Verdict) (s : State) (h : needsFlush s.params v = false) :
    recordVerdict v s = { dropChunk s with st := .poll } := by
  cases v with
  | frame f => simp [needsFlush] at h
  | incomplete => simp [recordVerdict, h, dropChunk]
  | unrecognized => simp [recordVerdict, h, dropChunk]

/-- A frame is always flushed (R154), so a verdict that is not flushed is no frame. -/
theorem not_frame_of_not_flushed {p : Params} {v : Verdict} (h : needsFlush p v = false) : ∀ f, v ≠ .frame f := by
  intro f hf
  simp [hf, needsFlush] at h

/-! ## The scanner -/

/-- What the scanner's step can do (R143 to R158), one constructor for each branch. -/
inductive ScannerMove (tx : TxDraw) (s : State) : State → Prop where
  | wait : s.st = .reset ∨ s.st = .exited ∨ (s.st = .idleWait ∧ s.idleTimer ≠ .expired) ∨
      (s.st = .settle ∧ s.settleTimer ≠ .expired) ∨ (s.st = .dispatch ∧ s.dispatchDone = false) ∨
      (s.st = .fault ∧ s.reconnectDone = false) → ScannerMove tx s s
  | pollClosed : s.st = .poll → s.txOpen = false → ScannerMove tx s (exitLoop .closed s)
  | pollErr (left : List Byte) : s.st = .poll → s.txOpen = true → tx = .err left →
      ScannerMove tx s (raiseTransportFault .query { s with rxbuf := left })
  | pollNone : s.st = .poll → s.txOpen = true → tx = .ok → s.rxbuf = [] →
      ScannerMove tx s { s with st := .idleWait, idleTimer := .running }
  | pollSome : s.st = .poll → s.txOpen = true → tx = .ok → s.rxbuf ≠ [] →
      ScannerMove tx s { s with st := .settle, settleTimer := .running }
  | idleExpired : s.st = .idleWait → s.idleTimer = .expired →
      ScannerMove tx s { s with st := .poll, idleTimer := .stopped }
  | settleExpired : s.st = .settle → s.settleTimer = .expired →
      ScannerMove tx s { s with st := .drain, settleTimer := .stopped }
  | drainErr (left : List Byte) : s.st = .drain → tx = .err left →
      ScannerMove tx s (raiseTransportFault .drain { s with rxbuf := left })
  | drainEmpty : s.st = .drain → tx = .ok → s.rxbuf = [] →
      ScannerMove tx s (exitLoop .emptyDrain { s with rxbuf := [] })
  | drainBytes : s.st = .drain → tx = .ok → s.rxbuf ≠ [] →
      ScannerMove tx s { s with rxbuf := [], chunk := capChunk s.params s.rxbuf, st := .classify }
  | classifyFlush : s.st = .classify → needsFlush s.params (decodeChunk s.chunk) = true →
      ScannerMove tx s { s with
        res := some (decodeChunk s.chunk), crcStatus := validateChunk Config.checksum16 s.chunk, st := .flush }
  | classifyDrop : s.st = .classify → needsFlush s.params (decodeChunk s.chunk) = false →
      ScannerMove tx s { dropChunk s with st := .poll }
  | flushErr (left : List Byte) : s.st = .flush → tx = .err left →
      ScannerMove tx s (raiseTransportFault .flush { s with rxbuf := left })
  | flushFrame (f : Frame) : s.st = .flush → tx = .ok → s.res = some (.frame f) → f.wf = true →
      ScannerMove tx s { s with rxbuf := [], st := .dispatch }
  | flushDrop : s.st = .flush → tx = .ok → (∀ f, s.res ≠ some (.frame f)) →
      ScannerMove tx s { dropChunk { s with rxbuf := [] } with st := .poll }
  | dispatchDone : s.st = .dispatch → s.dispatchDone = true →
      ScannerMove tx s { dropChunk s with st := .poll, dispatchDone := false }
  | reconnectDone : s.st = .fault → s.reconnectDone = true → ScannerMove tx s (faultReturn s)

theorem pollStep_move (tx : TxDraw) (s : State) (hst : s.st = .poll) : ScannerMove tx s (pollStep tx s) := by
  unfold pollStep
  cases ho : s.txOpen with
  | false => exact .pollClosed hst ho
  | true =>
    cases tx with
    | err left => exact .pollErr left hst ho rfl
    | ok =>
      cases hb : s.rxbuf with
      | nil => simpa [txBytesAvailable, hb] using ScannerMove.pollNone hst ho rfl hb
      | cons b bs =>
        simpa [txBytesAvailable, hb] using ScannerMove.pollSome (tx := .ok) hst ho rfl (by simp [hb])

theorem drainStep_move (tx : TxDraw) (s : State) (hst : s.st = .drain) : ScannerMove tx s (drainStep tx s) := by
  unfold drainStep
  cases tx with
  | err left => exact .drainErr left hst rfl
  | ok =>
    cases hb : s.rxbuf with
    | nil => simpa [txReadAvailable, hb] using ScannerMove.drainEmpty hst rfl hb
    | cons b bs =>
      simpa [txReadAvailable, hb] using ScannerMove.drainBytes (tx := .ok) hst rfl (by simp [hb])

theorem flushStep_move {tx : TxDraw} {s t : State} (hst : s.st = .flush) (h : flushStep tx s = .next t) :
    ScannerMove tx s t := by
  unfold flushStep at h
  cases tx with
  | err left =>
    simp only [txReadAvailable] at h
    cases h
    exact .flushErr left hst rfl
  | ok =>
    simp only [txReadAvailable] at h
    split at h
    · cases h
    · rename_i hm
      split at h <;> cases h
      · rename_i f hr
        exact .flushFrame f hst rfl hr (by simpa [State.offersMalformedFrame, show s.res = _ from hr] using hm)
      · exact .flushDrop hst rfl (by assumption)

/-- The inversion lemma of the scanner's step. -/
theorem scannerStep_move {tx : TxDraw} {s t : State} (h : scannerStep tx s = .next t) : ScannerMove tx s t := by
  unfold scannerStep at h
  split at h
  · cases h; exact .wait (.inl ‹_›)
  · cases h; exact pollStep_move tx s ‹_›
  · cases h
    unfold idleWaitStep
    split
    · exact .idleExpired ‹_› ‹_›
    · exact .wait (.inr (.inr (.inl ⟨‹_›, ‹_›⟩)))
  · cases h
    unfold settleStep
    split
    · exact .settleExpired ‹_› ‹_›
    · exact .wait (.inr (.inr (.inr (.inl ⟨‹_›, ‹_›⟩))))
  · cases h; exact drainStep_move tx s ‹_›
  · rw [classifyStep_eq] at h
    cases h
    cases hf : needsFlush s.params (decodeChunk s.chunk) with
    | true => rw [recordVerdict_flush _ _ hf]; exact .classifyFlush ‹_› hf
    | false => rw [recordVerdict_drop _ _ hf]; exact .classifyDrop ‹_› hf
  · exact flushStep_move ‹_› h
  · unfold dispatchStep at h
    split at h
    · cases h
    · split at h <;> cases h
      · exact .dispatchDone ‹_› ‹_›
      · exact .wait (by simp_all)
  · cases h
    unfold faultStep
    split
    · exact .reconnectDone ‹_› ‹_›
    · exact .wait (by simp_all)
  · cases h; exact .wait (.inr (.inl ‹_›))
  · cases h

/-! ## A step -/

/-- What a step can do: one constructor for each kind of turn (R10). -/
inductive StepMove (s : State) : State → Prop where
  | request (h : HeaderWord) (data : List Byte) (i : Instr) (t : State) : s.nextTurn = .caller h data →
      decode (.request h data) = .ok i → RequestEffect i s.begin t → StepMove s t
  | scanner (tx : TxDraw) (t : State) : s.nextTurn = .scanner tx → ScannerMove tx s.begin t → StepMove s t
  | written (bytes : List Byte) : s.nextTurn = .callerWrites bytes true →
      StepMove s { s.begin with wire := s.wire ++ bytes }
  | lost (bytes : List Byte) : s.nextTurn = .callerWrites bytes false → StepMove s s.begin
  | received (bytes : List Byte) : s.nextTurn = .transportReceives bytes →
      StepMove s { s.begin with rxbuf := s.rxbuf ++ bytes }
  | dropped : s.nextTurn = .transportDrops → StepMove s { s.begin with rxbuf := [] }
  | closed : s.nextTurn = .transportCloses → StepMove s { s.begin with txOpen := false }
  | opened : s.nextTurn = .supervisorOpens → StepMove s { s.begin with txOpen := true }
  | reconnected : s.nextTurn = .supervisorDone → s.st = .fault → StepMove s { s.begin with reconnectDone := true }
  | reconnectIgnored : s.nextTurn = .supervisorDone → s.st ≠ .fault → StepMove s s.begin
  | dispatched : s.nextTurn = .dispatcherDone → s.st = .dispatch → StepMove s { s.begin with dispatchDone := true }
  | dispatchIgnored : s.nextTurn = .dispatcherDone → s.st ≠ .dispatch → StepMove s s.begin
  | idleTimer : s.nextTurn = .idleTimerExpires → StepMove s { s.begin with idleTimer := s.idleTimer.expire }
  | settleTimer : s.nextTurn = .settleTimerExpires → StepMove s { s.begin with settleTimer := s.settleTimer.expire }
  | reset : s.nextTurn = .ownerResets → StepMove s (applyReset s.begin)

/-- A request that the step runs is decoded, and its effect is that of its instruction. -/
theorem runEncoded_request {h : HeaderWord} {data : List Byte} {s t : State}
    (hr : runEncoded (.request h data) s = .next t) :
    ∃ i, decode (.request h data) = .ok i ∧ RequestEffect i s t := by
  unfold runEncoded at hr
  split at hr
  · rename_i i hi
    refine ⟨i, hi, exec_request_effect ?_ hr⟩
    rw [(decode_request_ok hi).2]
    exact decodeRow_not_shape _ _ _ _
  · cases hr

/-- The inversion lemma of a step. -/
theorem step_move {s t : State} (h : step s = .next t) : StepMove s t := by
  unfold step runTurn at h
  split at h
  case h_1 header data hn =>
    obtain ⟨i, hi, he⟩ := runEncoded_request h
    exact .request header data i t hn hi he
  case h_2 bytes lands hn =>
    cases h
    cases lands with
    | true => simpa using StepMove.written bytes hn
    | false => exact .lost bytes hn
  case h_3 tx hn => exact .scanner tx t hn (scannerStep_move h)
  case h_4 bytes hn => cases h; simpa using StepMove.received bytes hn
  case h_5 hn => cases h; exact .dropped hn
  case h_6 hn => cases h; exact .closed hn
  case h_7 hn => cases h; exact .opened hn
  case h_8 hn =>
    cases h
    unfold assertReconnectDone
    split
    · exact .reconnected hn (by simpa using ‹s.begin.st = .fault›)
    · exact .reconnectIgnored hn (by simpa using ‹¬ s.begin.st = .fault›)
  case h_9 hn =>
    cases h
    unfold assertDispatchDone
    split
    · exact .dispatched hn (by simpa using ‹s.begin.st = .dispatch›)
    · exact .dispatchIgnored hn (by simpa using ‹¬ s.begin.st = .dispatch›)
  case h_10 hn => cases h; simpa using StepMove.idleTimer hn
  case h_11 hn => cases h; simpa using StepMove.settleTimer hn
  case h_12 hn => cases h; exact .reset hn
  case h_13 => cases h

/-! ## What a step is, turn by turn -/

theorem step_caller {s : State} {h : HeaderWord} {data : List Byte} (hn : s.nextTurn = .caller h data) :
    step s = runEncoded (.request h data) s.begin := by
  simp [step, hn, runTurn]

theorem step_scanner {s : State} {tx : TxDraw} (hn : s.nextTurn = .scanner tx) : step s = scannerStep tx s.begin := by
  simp [step, hn, runTurn]

theorem runEncoded_ok {w : Encoded} {i : Instr} (s : State) (h : decode w = .ok i) : runEncoded w s = exec i s := by
  simp [runEncoded, h]

/-! ## Runs -/

theorem run_zero (s : State) : Host.Core.run Sys2Proof.core 0 s = .next s := rfl

/-- A run takes its first step and goes on from there. -/
theorem run_next {s t : State} (k : Nat) (h : step s = .next t) :
    Host.Core.run Sys2Proof.core (k + 1) s = Host.Core.run Sys2Proof.core k t := by
  have h' : Sys2Proof.core.step s = .next t := h
  simp [Host.Core.run, h']

/-- A run of at least one step that answers a state took a first step. -/
theorem run_succ_inv {s t : State} {k : Nat} (h : Host.Core.run Sys2Proof.core (k + 1) s = .next t) :
    ∃ u, step s = .next u ∧ Host.Core.run Sys2Proof.core k u = .next t := by
  simp only [Host.Core.run] at h
  split at h
  · exact ⟨_, ‹_›, h⟩
  · cases h
  · cases h

/-- A step uses up the listed turn and lists no other. -/
theorem step_turns {s t : State} {x : Turn} {ts : List Turn} (hts : s.turns = x :: ts) (h : step s = .next t) :
    t.turns = ts := by
  have hb := begin_turns_cons s x ts hts
  cases step_move h with
  | request hd data i t hn hi he => cases he <;> simp_all
  | scanner tx t hn hm => cases hm <;> simp_all
  | _ => simpa using hb

end Sys2Proof.Machine
end

