-- ==== Sys2Proof/Tests/Slice0.lean ====
section
/-! SUPPORT. Our own tests: well-formedness refusals, words written out from the spec's encodings, the vectors of
spec/95 as single steps, and for every statement with hypotheses a state and operands that meet them together. -/

namespace Sys2Proof.Tests

open Sys2Proof Sys2Proof.Machine

/-! ## Well-formedness: an ill-formed term for each check -/

/-! 65536 bytes are one more than the count field counts. -/

theorem test_wf_encode_too_long (data : List Byte) (h : data.length = 65536) :
    Instr.wellFormed (.encode 0x3F#8 data) = false := by simp [Instr.wellFormed, h]

theorem test_wf_decode_too_long (data : List Byte) (h : data.length = 65536) :
    Instr.wellFormed (.decode 0#8 data) = false := by simp [Instr.wellFormed, h]

theorem test_wf_validate_too_long (data : List Byte) (h : data.length = 65536) :
    Instr.wellFormed (.validate 0#8 data) = false := by simp [Instr.wellFormed, h]

theorem test_wf_reserved5_too_long (data : List Byte) (h : data.length = 65536) :
    Instr.wellFormed (.reservedOp5 0#5 0#8 data) = false := by simp [Instr.wellFormed, h]

theorem test_wf_reserved6_too_long (data : List Byte) (h : data.length = 65536) :
    Instr.wellFormed (.reservedOp6 0#5 0#8 data) = false := by simp [Instr.wellFormed, h]

theorem test_wf_reserved7_too_long (data : List Byte) (h : data.length = 65536) :
    Instr.wellFormed (.reservedOp7 0#5 0#8 data) = false := by simp [Instr.wellFormed, h]

theorem test_wf_illegal_too_long (data : List Byte) (h : data.length = 65536) :
    Instr.wellFormed (.illegalRequest 0#3 1#5 0#8 data) = false := by simp [Instr.wellFormed, h]

/-- rsv is 0 and the op is no START with data, so nothing is illegal about it. -/
theorem test_wf_illegal_without_reason : Instr.wellFormed (.illegalRequest 0#3 0#5 0x3F#8 [0x09#8]) = false := by decide

/-- START without data is legal. -/
theorem test_wf_illegal_start_without_data : Instr.wellFormed (.illegalRequest 3#3 0#5 0#8 []) = false := by decide

/-- A reserved op has rows of its own. -/
theorem test_wf_illegal_reserved_op : Instr.wellFormed (.illegalRequest 5#3 1#5 0#8 []) = false := by decide

theorem test_wf_unrecognized_discriminators :
    Instr.wellFormed (.unrecognized 0x3F#8) = false ∧ Instr.wellFormed (.unrecognized 0x41#8) = false := by decide

/-! ## Decoding: words written out from R78, R79, R83 and R76 (spec/95 sections 2 and 5) -/

/-- E-1's request: count 1, cmd 0x3F, rsv 00000, op 000. -/
theorem test_decode_encode :
    decode (.request 0b0000000000000001_00111111_00000_000#32 [0x09#8]) = .ok (.encode 0x3F#8 [0x09#8]) := by decide

/-- D-3's request: count 2, cmd 0, op 001. -/
theorem test_decode_decode :
    decode (.request 0b0000000000000010_00000000_00000_001#32 [0x3F#8, 0x01#8]) =
      .ok (.decode 0#8 [0x3F#8, 0x01#8]) := by decide

/-- B-7: count 0, cmd 0x3F, op 010. -/
theorem test_decode_validate :
    decode (.request 0b0000000000000000_00111111_00000_010#32 []) = .ok (.validate 0x3F#8 []) := by decide

/-- B-5: START with cmd 0xFF. -/
theorem test_decode_start :
    decode (.request 0b0000000000000000_11111111_00000_011#32 []) = .ok (.start 0xFF#8) := by decide

/-- CANCEL of program P4. -/
theorem test_decode_cancel :
    decode (.request 0b0000000000000000_00000000_00000_100#32 []) = .ok (.cancel 0#8) := by decide

/-- B-1, and the same op with rsv not 0. -/
theorem test_decode_reserved5 :
    decode (.request 0b0000000000000000_00000000_00000_101#32 []) = .ok (.reservedOp5 0#5 0#8 []) ∧
    decode (.request 0b0000000000000001_00000010_10000_101#32 [0xAA#8]) =
      .ok (.reservedOp5 16#5 0x02#8 [0xAA#8]) := by decide

/-- B-2. -/
theorem test_decode_reserved6 :
    decode (.request 0b0000000000000000_00000000_00000_110#32 []) = .ok (.reservedOp6 0#5 0#8 []) := by decide

/-- B-2. -/
theorem test_decode_reserved7 :
    decode (.request 0b0000000000000000_00000000_00000_111#32 []) = .ok (.reservedOp7 0#5 0#8 []) := by decide

/-- B-3 and B-4. -/
theorem test_decode_illegal :
    decode (.request 0b0000000000000001_00111111_00001_000#32 [0x09#8]) =
      .ok (.illegalRequest 0#3 1#5 0x3F#8 [0x09#8]) ∧
    decode (.request 0b0000000000000001_00000000_00000_011#32 [0x00#8]) =
      .ok (.illegalRequest 3#3 0#5 0#8 [0x00#8]) := by decide

/-- Byte 0 is 0011_1111. -/
theorem test_decode_key_status : decode (.byte0 0b00111111#8) = .ok .keyStatusShape := by decide

/-- Byte 0 is 0100_0001. -/
theorem test_decode_broadcast : decode (.byte0 0b01000001#8) = .ok .broadcastShape := by decide

/-- D-15: all eight bits of a discriminator must match. -/
theorem test_decode_unrecognized :
    decode (.byte0 0x40#8) = .ok (.unrecognized 0x40#8) ∧ decode (.byte0 0x3E#8) = .ok (.unrecognized 0x3E#8) ∧
    decode (.byte0 0xBF#8) = .ok (.unrecognized 0xBF#8) := by decide

/-- A request of two announced bytes with one given is rejected, by name. -/
theorem test_decode_rejects :
    decode (.request 0x00020001#32 [0x3F#8]) = .error (.dataLength 2 1) := by decide

/-- The rows in the table's own numbering. -/
theorem test_table_words :
    decodeTableWord 32 0x00000001 = some (.decode 0#8 []) ∧ decodeTableWord 8 4 = some (.cancel 0#8) ∧
    decodeTableWord 32 0x00000008 = some (.illegalRequest 0#3 1#5 0#8 []) ∧
    decodeTableWord 8 0x3F = some .keyStatusShape ∧ decodeTableWord 8 0x41 = some .broadcastShape ∧
    decodeTableWord 8 0xFF = some (.unrecognized 0xFF#8) ∧ decodeTableWord 0 0 = some (.unrecognized 0#8) := by
  decide

/-- A placed word is run by the very next step after reset, a request and a byte 0 of a chunk. -/
theorem test_placed_words :
    step (State.reset.withFetchWord 32 3) =
      .next { State.reset with st := .poll, response := some ⟨0x00000300#32, []⟩ } ∧
    step (State.reset.withFetchWord 8 0x55) = .next { State.reset with st := .poll } := ⟨rfl, rfl⟩

/-! ## The codec's vectors, under the spec's test checksum (93_implementation_defined.md G1) -/

/-- One bit of CRC-16/X-25, reflected. -/
def crcBit (c : Half) : Half := if c.getLsbD 0 then (c >>> 1) ^^^ 0x8408#16 else c >>> 1

/-- CRC-16/X-25, the checksum the vectors of spec/95 are worked out with. The model knows nothing of it. -/
def x25 (bytes : List Byte) : Half :=
  ~~~ bytes.foldl (fun c b => Nat.repeat crcBit 8 (c ^^^ b.setWidth 16)) 0xFFFF#16

set_option maxRecDepth 20000 in
/-- The check value of G1: "123456789" gives 0x906E. -/
theorem test_x25_check :
    x25 [0x31#8, 0x32#8, 0x33#8, 0x34#8, 0x35#8, 0x36#8, 0x37#8, 0x38#8, 0x39#8] = 0x906E#16 := by decide

set_option maxRecDepth 20000 in
/-- E-1, E-3, E-6: the header word and the bytes. -/
theorem test_encode_vectors :
    encodeResponse x25 0x3F#8 [0x09#8] = ⟨0x00050300#32, [0x3F#8, 0x01#8, 0x09#8, 0xBC#8, 0x8E#8]⟩ ∧
    encodeResponse x25 0x00#8 [] = ⟨0x00040300#32, [0x00#8, 0x00#8, 0x47#8, 0x0F#8]⟩ ∧
    encodeResponse x25 0x10#8 [0xAA#8, 0xBB#8] =
      ⟨0x00060300#32, [0x10#8, 0x02#8, 0xAA#8, 0xBB#8, 0x10#8, 0xD3#8]⟩ := by decide

set_option maxRecDepth 20000 in
/-- E-8: 256 payload bytes are one too many. -/
theorem test_encode_too_large :
    exec (.encode 0x3F#8 (List.replicate 256 0#8)) State.reset =
      .next { State.reset with response := some ⟨0x00000301#32, []⟩ } := rfl

set_option maxRecDepth 20000 in
/-- D-1, D-3, D-5, D-7, D-8, D-15. -/
theorem test_decode_vectors :
    decodeResponse [] = ⟨0x00000302#32, []⟩ ∧ decodeResponse [0x3F#8, 0x01#8] = ⟨0x00000302#32, []⟩ ∧
    decodeResponse [0x3F#8, 0x01#8, 0x09#8, 0xBC#8, 0x8E#8] = ⟨0x00030300#32, [0x3F#8, 0x01#8, 0x09#8]⟩ ∧
    decodeResponse [0x3F#8, 0x05#8, 0x09#8, 0xAA#8, 0xBB#8] = ⟨0x00030300#32, [0x3F#8, 0x01#8, 0x09#8]⟩ ∧
    decodeResponse [0x3F#8, 0x00#8, 0x2D#8, 0x3A#8] = ⟨0x00030300#32, [0x3F#8, 0x01#8, 0x2D#8]⟩ ∧
    decodeResponse [0xBF#8] = ⟨0x00000303#32, []⟩ := by decide

set_option maxRecDepth 20000 in
/-- D-10 and D-14: 17 bytes are one too few, and byte 1 of a broadcast frame is not read. -/
theorem test_decode_broadcast_vectors :
    decodeResponse (0x41#8 :: List.replicate 16 0x30#8) = ⟨0x00000302#32, []⟩ ∧
    decodeResponse (0x41#8 :: List.replicate 20 0xFF#8) =
      ⟨0x00120300#32, 0x41#8 :: 0x10#8 :: List.replicate 16 0xFF#8⟩ := by decide

set_option maxRecDepth 20000 in
/-- V-1, V-2, V-3, V-4, V-5: the verdict stands in bits [9:8]. -/
theorem test_validate_vectors :
    validateResponse x25 [0x3F#8, 0x01#8, 0x09#8, 0xBC#8, 0x8E#8] = ⟨0x00000000#32, []⟩ ∧
    validateResponse x25 [0x3F#8, 0x01#8, 0x08#8, 0xBC#8, 0x8E#8] = ⟨0x00000100#32, []⟩ ∧
    validateResponse x25 [0x3F#8, 0x01#8, 0x09#8, 0x8E#8, 0xBC#8] = ⟨0x00000100#32, []⟩ ∧
    validateResponse x25 [0x3F#8, 0x01#8, 0x09#8, 0xBC#8] = ⟨0x00000200#32, []⟩ ∧
    validateResponse x25 [0x3F#8] = ⟨0x00000200#32, []⟩ := by decide

set_option maxRecDepth 20000 in
/-- V-6, V-8, V-9, V-10. -/
theorem test_validate_lengths :
    validateChunk x25 [0x00#8, 0x00#8, 0x47#8, 0x0F#8] = .valid ∧
    validateChunk x25 [0x3F#8, 0x01#8, 0x09#8, 0xBC#8, 0x8E#8, 0x41#8, 0x10#8] = .valid ∧
    validateChunk x25 [0x3F#8, 0x05#8, 0x09#8, 0xAA#8, 0xBB#8] = .short ∧
    validateChunk x25 [0x55#8, 0x3F#8, 0x01#8, 0x07#8] = .short := by decide

/-! ## The scanner's vectors (spec/95 section 6), one step each -/

/-- The machine after reset, but in scanner state `st`, with the transport open and the turns `ts` to come. -/
def at_ (st : ScanState) (ts : List Turn) : State := { State.reset with st := st, txOpen := true, turns := ts }

/-- The key frame of the vectors: 0x3F, 1, [0x09]. -/
def keyFrame : Frame := ⟨0x3F#8, 1#8, [0x09#8], 0#16⟩

/-- The chunk of S-12 and S-13. -/
def keyChunk : List Byte := [0x3F#8, 0x01#8, 0x09#8]

/-- A state that holds the key chunk and its verdicts. -/
def holding (st : ScanState) (ts : List Turn) : State :=
  { at_ st ts with chunk := keyChunk, res := some (.frame keyFrame), crcStatus := .short }

/-- START's request and CANCEL's. -/
def startTurn : Turn := .caller 0x00000003#32 []
def cancelTurn : Turn := .caller 0x00000004#32 []

/-- S-1 and S-2. -/
theorem test_start :
    step (at_ .reset [startTurn]) = .next { at_ .poll [] with response := some ⟨0x00000300#32, []⟩ } ∧
    step (at_ .poll [startTurn]) = .next { at_ .poll [] with response := some ⟨0x00000305#32, []⟩ } := ⟨rfl, rfl⟩

/-- S-3 and S-23: the frame is withdrawn. -/
theorem test_cancel :
    step (at_ .reset [cancelTurn]) = .next { at_ .exited [] with
      response := some ⟨0x00000300#32, []⟩, event := some (.loopExit .cancelled) } ∧
    step (holding .dispatch [cancelTurn]) = .next { at_ .exited [] with
      response := some ⟨0x00000300#32, []⟩, event := some (.loopExit .cancelled) } := ⟨rfl, rfl⟩

/-- S-26. -/
theorem test_exited_ignores :
    step (at_ .exited [startTurn]) = .next { at_ .exited [] with response := some ⟨0x00000305#32, []⟩ } ∧
    step (at_ .exited [cancelTurn]) = .next { at_ .exited [] with response := some ⟨0x00000305#32, []⟩ } := ⟨rfl, rfl⟩

/-- S-25. -/
theorem test_cancel_in_fault :
    step { at_ .fault [cancelTurn] with reconnectReq := true, faultCause := .drain } =
      .next { at_ .exited [] with
        faultCause := .drain, response := some ⟨0x00000300#32, []⟩, event := some (.loopExit .cancelled) } := rfl

/-- B-1, B-2, B-3 and B-4: BAD_OP, and nothing else. -/
theorem test_bad_op :
    step (at_ .poll [.caller 0x00000005#32 []]) = .next { at_ .poll [] with response := some ⟨0x00000304#32, []⟩ } ∧
    step (at_ .poll [.caller 0x00000006#32 []]) = .next { at_ .poll [] with response := some ⟨0x00000304#32, []⟩ } ∧
    step (at_ .poll [.caller 0x00000007#32 []]) = .next { at_ .poll [] with response := some ⟨0x00000304#32, []⟩ } ∧
    step (at_ .reset [.caller 0x00010003#32 [0x00#8]]) =
      .next { at_ .reset [] with response := some ⟨0x00000304#32, []⟩ } := ⟨rfl, rfl, rfl, rfl⟩

/-- S-4 and S-5. -/
theorem test_poll_stops :
    step { at_ .poll [.scanner .ok] with txOpen := false } =
      .next { at_ .exited [] with txOpen := false, event := some (.loopExit .closed) } ∧
    step (at_ .poll [.scanner (.err [])]) = .next { at_ .fault [] with
      txOpen := false, faultCause := .query, reconnectReq := true, event := some (.disconnect .query) } := ⟨rfl, rfl⟩

/-- S-6 and S-7. -/
theorem test_poll_counts :
    step (at_ .poll [.scanner .ok]) = .next { at_ .idleWait [] with idleTimer := .running } ∧
    step { at_ .poll [.scanner .ok] with rxbuf := [0x3F#8, 0x01#8, 0x09#8, 0xBC#8, 0x8E#8] } =
      .next { at_ .settle [] with
        settleTimer := .running, rxbuf := [0x3F#8, 0x01#8, 0x09#8, 0xBC#8, 0x8E#8] } := ⟨rfl, rfl⟩

/-- S-8 and S-9. -/
theorem test_timers :
    step { at_ .idleWait [.scanner .ok] with idleTimer := .expired } = .next (at_ .poll []) ∧
    step { at_ .settle [.scanner .ok] with settleTimer := .expired } = .next (at_ .drain []) := ⟨rfl, rfl⟩

/-- S-10, S-11 and S-12. -/
theorem test_drain :
    step (at_ .drain [.scanner (.err [])]) = .next { at_ .fault [] with
      txOpen := false, faultCause := .drain, reconnectReq := true, event := some (.disconnect .drain) } ∧
    step (at_ .drain [.scanner .ok]) = .next { at_ .exited [] with event := some (.loopExit .emptyDrain) } ∧
    step { at_ .drain [.scanner .ok] with rxbuf := keyChunk } = .next { at_ .classify [] with chunk := keyChunk } :=
  ⟨rfl, rfl, rfl⟩

/-- S-13 and S-14. -/
theorem test_key_status :
    step { at_ .classify [.scanner .ok] with chunk := keyChunk } = .next (holding .flush []) ∧
    step { at_ .classify [.scanner .ok] with chunk := [0x3F#8, 0x01#8] } = .next { at_ .flush [] with
      chunk := [0x3F#8, 0x01#8], res := some .incomplete, crcStatus := .short } := ⟨rfl, rfl⟩

/-- Program P4's classify step: 10 of 18 bytes. -/
theorem test_broadcast :
    step { at_ .classify [.scanner .ok] with chunk := 0x41#8 :: 0x10#8 :: List.replicate 8 0x30#8 } =
      .next { at_ .flush [] with
        chunk := 0x41#8 :: 0x10#8 :: List.replicate 8 0x30#8, res := some .incomplete, crcStatus := .short } := rfl

/-- S-16 and S-17. -/
theorem test_unrecognized :
    step { at_ .classify [.scanner .ok] with chunk := [0x55#8] } = .next (at_ .poll []) ∧
    step { at_ .classify [.scanner .ok] with
        chunk := [0x55#8], params := { Params.defaults with flushOnUnrecognized := true } } =
      .next { at_ .flush [] with
        chunk := [0x55#8], params := { Params.defaults with flushOnUnrecognized := true },
        res := some .unrecognized, crcStatus := .short } := ⟨rfl, rfl⟩

/-- S-18, S-19 and S-20. -/
theorem test_flush :
    step { holding .flush [.scanner .ok] with rxbuf := [0x41#8] } = .next (holding .dispatch []) ∧
    step { holding .flush [.scanner .ok] with res := some .incomplete } = .next (at_ .poll []) ∧
    step (holding .flush [.scanner (.err [])]) = .next { at_ .fault [] with
      txOpen := false, faultCause := .flush, reconnectReq := true, event := some (.disconnect .flush) } :=
  ⟨rfl, rfl, rfl⟩

/-- S-21 and S-22, and FRAME_OUT before. -/
theorem test_dispatch :
    (holding .dispatch []).frameOut = some (keyFrame, .short) ∧
    step (holding .dispatch [.scanner .ok]) = .next (holding .dispatch []) ∧
    step { holding .dispatch [.scanner .ok] with dispatchDone := true } = .next (at_ .poll []) := ⟨rfl, rfl, rfl⟩

/-- S-24. -/
theorem test_fault_return :
    step { at_ .fault [.scanner .ok] with reconnectReq := true, reconnectDone := true, faultCause := .query } =
      .next { at_ .poll [] with faultCause := .query } := rfl

/-- S-27. -/
theorem test_reset :
    step (holding .dispatch [.ownerResets]) = .next (at_ .reset []) := rfl

/-! ## Witnesses: states and operands that meet a statement's hypotheses together -/

/-- n zero bytes. -/
abbrev zeros (n : Nat) : List Byte := List.replicate n 0#8

/-- Instructions of every constructor are well formed. -/
theorem witness_DecodeOfEncode :
    Instr.wellFormed (.encode 0xFF#8 [0x09#8]) = true ∧ Instr.wellFormed (.decode 0x01#8 []) = true ∧
    Instr.wellFormed (.validate 0x02#8 [0x3F#8]) = true ∧ Instr.wellFormed (.start 0xFF#8) = true ∧
    Instr.wellFormed (.cancel 0x80#8) = true ∧ Instr.wellFormed (.reservedOp5 31#5 0xFF#8 [0#8]) = true ∧
    Instr.wellFormed (.reservedOp6 0#5 0#8 []) = true ∧ Instr.wellFormed (.reservedOp7 1#5 0#8 []) = true ∧
    Instr.wellFormed (.illegalRequest 4#3 31#5 0#8 []) = true ∧
    Instr.wellFormed (.illegalRequest 3#3 0#5 0#8 [0#8]) = true ∧ Instr.wellFormed .keyStatusShape = true ∧
    Instr.wellFormed .broadcastShape = true ∧ Instr.wellFormed (.unrecognized 0xFF#8) = true ∧
    ∀ data : List Byte, data.length = 65535 → Instr.wellFormed (.encode 0#8 data) = true := by
  refine ⟨rfl, rfl, rfl, rfl, rfl, rfl, rfl, rfl, rfl, rfl, rfl, rfl, rfl, fun data h => ?_⟩
  simp [Instr.wellFormed, h]

theorem witness_EncodeOfDecode :
    (∃ i, decode (.request 0x00013F00#32 [0x09#8]) = .ok i) ∧ ∃ i, decode (.byte0 0x41#8) = .ok i := ⟨⟨_, rfl⟩, ⟨_, rfl⟩⟩

/-- One header for each row, and the longest data a header can announce. -/
theorem witness_RequestsDecodeByFirstTableRow :
    (∀ h ∈ [0x0001FF00#32, 0x00010001#32, 0x00010002#32, 0x00010005#32, 0x00010006#32, 0x00010007#32, 0x00010008#32,
      0x00010003#32], [0xAA#8].length = (hdrCount h).toNat) ∧
    (∀ h ∈ [0x0000FF03#32, 0x00000004#32], ([] : List Byte).length = (hdrCount h).toNat) ∧
    ∀ data : List Byte, data.length = 65535 → data.length = (hdrCount 0xFFFF0000#32).toNat :=
  ⟨by simp [hdrCount], by simp [hdrCount], fun _ h => h⟩

/-- ENCODE at the two sides of 255 bytes, DECODE with and without a frame, VALIDATE, and an illegal request. -/
theorem witness_ResponsesFollowFormat :
    (∀ p : List Byte, p.length = 255 → decode (.request 0x00FF3F00#32 p) = .ok (.encode 0x3F#8 p) ∧
      ∃ t, exec (.encode 0x3F#8 p) State.reset = .next t) ∧
    (∀ p : List Byte, p.length = 256 → decode (.request 0x01003F00#32 p) = .ok (.encode 0x3F#8 p) ∧
      ∃ t, exec (.encode 0x3F#8 p) State.reset = .next t) ∧
    (decode (.request 0x00030001#32 keyChunk) = .ok (.decode 0#8 keyChunk) ∧
      ∃ t, exec (.decode 0#8 keyChunk) State.reset = .next t) ∧
    (decode (.request 0x00000001#32 []) = .ok (.decode 0#8 []) ∧ ∃ t, exec (.decode 0#8 []) State.reset = .next t) ∧
    (decode (.request 0x00030002#32 keyChunk) = .ok (.validate 0#8 keyChunk) ∧
      ∃ t, exec (.validate 0#8 keyChunk) State.reset = .next t) ∧
    (decode (.request 0x00000005#32 []) = .ok (.reservedOp5 0#5 0#8 []) ∧
      ∃ t, exec (.reservedOp5 0#5 0#8 []) State.reset = .next t) :=
  ⟨fun _ h => ⟨if_pos h, _, rfl⟩, fun _ h => ⟨if_pos h, _, rfl⟩, ⟨rfl, _, rfl⟩, ⟨rfl, _, rfl⟩, ⟨rfl, _, rfl⟩,
    ⟨rfl, _, rfl⟩⟩

theorem witness_EncodeAnswers : (zeros 255).length ≤ 255 ∧ 255 < (zeros 256).length := by simp

theorem witness_EncodeOutputShape :
    (zeros 255).length ≤ 255 ∧ encodeFrame x25 0x3F#8 (zeros 255) = encodeFrame x25 0x3F#8 (zeros 255) := by simp

/-- One chunk for each clause, at the boundary lengths 2 and 3, 17 and 18. -/
theorem witness_DecodeAnswers :
    (∃ b0 rest, [0x40#8] = b0 :: rest ∧ b0 ≠ 0x3F#8 ∧ b0 ≠ 0x41#8) ∧
    (∃ rest, [0x3F#8, 0x01#8] = 0x3F#8 :: rest ∧ [0x3F#8, 0x01#8].length < 3) ∧
    (∃ len b rest, keyChunk = 0x3F#8 :: len :: b :: rest) ∧
    (∃ rest, 0x41#8 :: zeros 16 = 0x41#8 :: rest ∧ (0x41#8 :: zeros 16).length < 18) ∧
    (∃ len p rest, 0x41#8 :: zeros 17 = 0x41#8 :: len :: (p ++ rest) ∧ p.length = 16) :=
  ⟨⟨_, _, rfl, by decide, by decide⟩, ⟨_, rfl, by decide⟩, ⟨_, _, _, rfl⟩, ⟨_, rfl, by decide⟩,
    ⟨0#8, zeros 16, [], rfl, rfl⟩⟩

/-- A frame, and a Frame record with an empty payload and length 1 in S_FLUSH and in S_DISPATCH. -/
theorem witness_FramesAreWellFormed :
    decodeChunk keyChunk = .frame keyFrame ∧ ({ keyFrame with payload := [] } : Frame).payload.length ≠ keyFrame.length.toNat ∧
    (∃ s : State, s.res = some (.frame { keyFrame with payload := [] }) ∧ s.st = .flush ∧ s.ScannerOk) ∧
    (∃ s : State, s.res = some (.frame { keyFrame with payload := [] }) ∧ s.st = .dispatch ∧ s.ScannerNext) :=
  ⟨rfl, by decide, ⟨{ at_ .flush [.scanner .ok] with res := some (.frame { keyFrame with payload := [] }) }, rfl, rfl, rfl⟩,
    ⟨{ at_ .dispatch [.scanner .ok] with res := some (.frame { keyFrame with payload := [] }) }, rfl, rfl, .ok, rfl⟩⟩

/-- No byte is its own complement. -/
theorem not_byte_ne : ∀ b : Byte, ~~~b ≠ b := by decide

/-- A chunk of one byte, one a byte short of its frame, and a whole frame with the right and with a wrong checksum. -/
theorem witness_ValidateAnswers :
    [0x3F#8].length < 2 ∧
    (∃ c0 len rest, [0x3F#8, 0x01#8, 0x09#8, 0xBC#8] = c0 :: len :: rest ∧
      [0x3F#8, 0x01#8, 0x09#8, 0xBC#8].length < 4 + len.toNat) ∧
    (∃ (c : List Byte) (c0 len : Byte) (p : List Byte) (k0 k1 : Byte) (rest : List Byte),
      c = c0 :: len :: (p ++ k0 :: k1 :: rest) ∧ p.length = len.toNat ∧
      k0 = (Config.checksum16 (c0 :: len :: p)).extractLsb' 0 8 ∧
      k1 = (Config.checksum16 (c0 :: len :: p)).extractLsb' 8 8) ∧
    (∃ (c : List Byte) (c0 len : Byte) (p : List Byte) (k0 k1 : Byte) (rest : List Byte),
      c = c0 :: len :: (p ++ k0 :: k1 :: rest) ∧ p.length = len.toNat ∧
      ¬ (k0 = (Config.checksum16 (c0 :: len :: p)).extractLsb' 0 8 ∧
        k1 = (Config.checksum16 (c0 :: len :: p)).extractLsb' 8 8)) :=
  ⟨by decide, ⟨_, _, _, rfl, by decide⟩, ⟨_, 0x3F#8, 0x01#8, [0x09#8], _, _, [], rfl, rfl, rfl, rfl⟩,
    ⟨_, 0x3F#8, 0x01#8, [0x09#8], ~~~((Config.checksum16 [0x3F#8, 0x01#8, 0x09#8]).extractLsb' 0 8), 0#8, [], rfl, rfl,
      fun h => not_byte_ne _ h.1⟩⟩

/-- For every payload of at most 255 bytes ENCODE makes a frame, so each row of R105's table has one: payloads of 0, 1,
2 and 255 bytes after 0x3F, of 0, 13, 14, 15, 16, 17 and 255 bytes after 0x41. -/
theorem witness_RoundTripTable (cmd : Byte) :
    ∀ n ∈ [0, 1, 2, 13, 14, 15, 16, 17, 255], (zeros n).length ≤ 255 ∧ ∃ e, encodeFrame x25 cmd (zeros n) = .ok e := by
  intro n hn
  have hle : (zeros n).length ≤ 255 := by
    simp only [List.mem_cons, List.not_mem_nil, or_false] at hn
    rw [List.length_replicate]
    omega
  exact ⟨hle, _, encodeFrame_ok _ _ _ hle⟩

set_option maxRecDepth 20000 in
/-- E-1's frame, and V-2's change of its payload, which the test checksum tells apart. -/
theorem witness_ValidatorAcceptsEncoder :
    (∃ e, encodeFrame x25 0x3F#8 [0x09#8] = .ok e) ∧ [0x08#8].length ≤ 255 ∧
    x25 [0x3F#8, 0x01#8, 0x08#8] ≠ x25 [0x3F#8, 0x01#8, 0x09#8] := ⟨⟨_, rfl⟩, by decide, by decide⟩

set_option maxRecDepth 20000 in
theorem witness_VerdictsSurviveAppending :
    decodeChunk keyChunk = .frame keyFrame ∧ decodeChunk [0x40#8] = .unrecognized ∧
    validateChunk x25 [0x3F#8, 0x01#8, 0x09#8, 0xBC#8, 0x8E#8] = .valid ∧
    validateChunk x25 [0x3F#8, 0x01#8, 0x08#8, 0xBC#8, 0x8E#8] = .invalid := by decide

theorem witness_CapacityUnobservable : 259 ≤ 259 := Nat.le_refl _

/-- S_RESET, and a named state that is not S_RESET. -/
theorem witness_StartAnswers :
    (at_ .reset []).st = .reset ∧ ((at_ .exited []).st ≠ .reset ∧ ∀ k, (at_ .exited []).st ≠ .unused k) :=
  ⟨rfl, by decide, by decide⟩

theorem witness_CancelAnswers :
    ((at_ .reset []).st ≠ .exited ∧ ∀ k, (at_ .reset []).st ≠ .unused k) ∧ (at_ .exited []).st = .exited :=
  ⟨⟨by decide, by decide⟩, rfl⟩

/-- One request for each way to be illegal. -/
theorem witness_FormatCheckedFirst :
    ∀ h ∈ [0x00010005#32, 0x00010006#32, 0x00010007#32, 0x00010008#32, 0x00010003#32, 0x00010004#32],
      (at_ .poll [.caller h [0#8]]).nextTurn = .caller h [0#8] ∧ [0#8].length = (hdrCount h).toNat ∧
      (hdrOp h = 5#3 ∨ hdrOp h = 6#3 ∨ hdrOp h = 7#3 ∨ hdrRsv h ≠ 0#5 ∨
        ((hdrOp h = 3#3 ∨ hdrOp h = 4#3) ∧ hdrCount h ≠ 0#16)) := by
  intro h hh
  simp only [List.mem_cons, List.not_mem_nil, or_false] at hh
  rcases hh with rfl | rfl | rfl | rfl | rfl | rfl <;> exact ⟨rfl, rfl, by decide⟩

/-- Chunks of three bytes and of two, with either flush policy. -/
theorem witness_KeyStatusShapeClassifies :
    (∃ s rest len b more, State.chunk s = 0x3F#8 :: rest ∧ rest = len :: b :: more) ∧
    ∀ p : Params, ∃ s rest, State.chunk s = 0x3F#8 :: rest ∧ rest.length < 2 ∧ s.params = p :=
  ⟨⟨holding .classify [], _, 0x01#8, 0x09#8, [], rfl, rfl⟩,
    fun p => ⟨{ at_ .classify [] with chunk := [0x3F#8, 0x01#8], params := p }, _, rfl, by decide, rfl⟩⟩

/-- Chunks of 18 bytes and of 17, with either flush policy. -/
theorem witness_BroadcastShapeClassifies :
    (∃ s rest len p more, State.chunk s = 0x41#8 :: rest ∧ rest = len :: (p ++ more) ∧ p.length = 16) ∧
    ∀ q : Params, ∃ s rest, State.chunk s = 0x41#8 :: rest ∧ rest.length < 17 ∧ s.params = q :=
  ⟨⟨{ at_ .classify [] with chunk := 0x41#8 :: zeros 17 }, _, 0#8, zeros 16, [], rfl, rfl, rfl⟩,
    fun q => ⟨{ at_ .classify [] with chunk := 0x41#8 :: zeros 16, params := q }, _, rfl, by decide, rfl⟩⟩

theorem witness_UnrecognizedIsDropped :
    (at_ .classify []).params.flushOnUnrecognized = false ∧
    ({ at_ .classify [] with params := { Params.defaults with flushOnUnrecognized := true } } : State).params.flushOnUnrecognized = true :=
  ⟨rfl, rfl⟩

/-- A request, one of the wrong length, and S_CLASSIFY with a chunk. -/
theorem witness_StepRunsDecodedInstruction :
    ((at_ .poll [startTurn]).nextTurn = .caller 0x00000003#32 [] ∧
      decode (.request 0x00000003#32 []) = .ok (.start 0#8)) ∧
    ((at_ .poll [.caller 0x00020001#32 [0x3F#8]]).nextTurn = .caller 0x00020001#32 [0x3F#8] ∧
      [0x3F#8].length ≠ (hdrCount 0x00020001#32).toNat) ∧
    ((holding .classify [.scanner .ok]).nextTurn = .scanner .ok ∧ (holding .classify [.scanner .ok]).st = .classify ∧
      (holding .classify [.scanner .ok]).chunk = 0x3F#8 :: [0x01#8, 0x09#8] ∧
      decode (.byte0 0x3F#8) = .ok .keyStatusShape) :=
  ⟨⟨rfl, rfl⟩, ⟨rfl, by decide⟩, rfl, rfl, rfl, rfl⟩

theorem witness_StepBeginsWithNextTurn : (at_ .poll [.scanner .ok]).turns = [.scanner .ok] ∧ State.reset.turns = [] :=
  ⟨rfl, rfl⟩

theorem witness_PlacedWordIsRun :
    (decodeTableWord 32 3 = some (.start 0#8) ∧ tableWord 32 3 = .request 0x00000003#32 []) ∧
    (decodeTableWord 8 0x3F = some .keyStatusShape ∧ tableWord 8 0x3F = .byte0 0x3F#8) := by decide

/-- A closed transport, a failing query, no byte and one byte. -/
theorem witness_PollStep :
    (∃ s : State, s.nextTurn = .scanner .ok ∧ s.st = .poll ∧ s.txOpen = false) ∧
    (∃ s : State, s.nextTurn = .scanner (.err []) ∧ s.st = .poll ∧ s.txOpen = true) ∧
    (∃ s : State, s.nextTurn = .scanner .ok ∧ s.st = .poll ∧ s.txOpen = true ∧ s.rxbuf.length = 0) ∧
    (∃ s : State, s.nextTurn = .scanner .ok ∧ s.st = .poll ∧ s.txOpen = true ∧ 0 < s.rxbuf.length) :=
  ⟨⟨{ at_ .poll [.scanner .ok] with txOpen := false }, rfl, rfl, rfl⟩,
    ⟨at_ .poll [.scanner (.err [])], rfl, rfl, rfl⟩, ⟨at_ .poll [.scanner .ok], rfl, rfl, rfl, rfl⟩,
    ⟨{ at_ .poll [.scanner .ok] with rxbuf := [0#8] }, rfl, rfl, rfl, by decide⟩⟩

theorem witness_TimedWaits :
    (∃ s : State, s.nextTurn = .scanner .ok ∧ s.st = .idleWait ∧ s.idleTimer = .expired) ∧
    (∃ s : State, s.nextTurn = .scanner .ok ∧ s.st = .idleWait ∧ s.idleTimer ≠ .expired) ∧
    (∃ s : State, s.nextTurn = .scanner .ok ∧ s.st = .settle ∧ s.settleTimer = .expired) ∧
    (∃ s : State, s.nextTurn = .scanner .ok ∧ s.st = .settle ∧ s.settleTimer ≠ .expired) ∧
    (∃ s : State, s.nextTurn = .idleTimerExpires ∧ s.idleTimer = .running) ∧
    (∃ s : State, s.nextTurn = .idleTimerExpires ∧ s.idleTimer ≠ .running) ∧
    (∃ s : State, s.nextTurn = .settleTimerExpires ∧ s.settleTimer = .running) ∧
    (∃ s : State, s.nextTurn = .settleTimerExpires ∧ s.settleTimer ≠ .running) :=
  ⟨⟨{ at_ .idleWait [.scanner .ok] with idleTimer := .expired }, rfl, rfl, rfl⟩,
    ⟨{ at_ .idleWait [.scanner .ok] with idleTimer := .running }, rfl, rfl, by decide⟩,
    ⟨{ at_ .settle [.scanner .ok] with settleTimer := .expired }, rfl, rfl, rfl⟩,
    ⟨{ at_ .settle [.scanner .ok] with settleTimer := .running }, rfl, rfl, by decide⟩,
    ⟨{ at_ .idleWait [.idleTimerExpires] with idleTimer := .running }, rfl, rfl⟩,
    ⟨at_ .poll [.idleTimerExpires], rfl, by decide⟩,
    ⟨{ at_ .settle [.settleTimerExpires] with settleTimer := .running }, rfl, rfl⟩,
    ⟨at_ .poll [.settleTimerExpires], rfl, by decide⟩⟩

/-- An error, an empty drain, one byte with an unbounded CHUNK and with the least capacity. -/
theorem witness_DrainStep :
    (∃ s : State, s.nextTurn = .scanner (.err []) ∧ s.st = .drain) ∧
    (∃ s : State, s.nextTurn = .scanner .ok ∧ s.st = .drain ∧ s.rxbuf = []) ∧
    (∃ s : State, s.nextTurn = .scanner .ok ∧ s.st = .drain ∧ s.rxbuf ≠ [] ∧ s.params.chunkCapacity = none) ∧
    (∃ s : State, s.nextTurn = .scanner .ok ∧ s.st = .drain ∧ s.rxbuf ≠ [] ∧ s.params.chunkCapacity = some 259) :=
  ⟨⟨at_ .drain [.scanner (.err [])], rfl, rfl⟩, ⟨at_ .drain [.scanner .ok], rfl, rfl, rfl⟩,
    ⟨{ at_ .drain [.scanner .ok] with rxbuf := [0#8] }, rfl, rfl, by decide, rfl⟩,
    ⟨{ at_ .drain [.scanner .ok] with rxbuf := [0#8], params := { Params.defaults with chunkCapacity := some 259 } },
      rfl, rfl, by decide, rfl⟩⟩

theorem witness_ClassifyStep :
    (∃ s : State, s.nextTurn = .scanner .ok ∧ s.st = .classify ∧ decodeChunk s.chunk = .frame keyFrame ∧
      needsFlush s.params (decodeChunk s.chunk) = true) ∧
    (∃ s : State, s.nextTurn = .scanner .ok ∧ s.st = .classify ∧
      needsFlush s.params (decodeChunk s.chunk) = false) :=
  ⟨⟨{ at_ .classify [.scanner .ok] with chunk := keyChunk }, rfl, rfl, rfl, rfl⟩,
    ⟨{ at_ .classify [.scanner .ok] with chunk := [0x55#8] }, rfl, rfl, rfl⟩⟩

theorem witness_FlushStep :
    (∃ s : State, s.nextTurn = .scanner (.err []) ∧ s.st = .flush) ∧
    (∃ s : State, s.nextTurn = .scanner .ok ∧ s.st = .flush ∧ s.res = some (.frame keyFrame) ∧ keyFrame.wf = true) ∧
    (∃ s : State, s.nextTurn = .scanner .ok ∧ s.st = .flush ∧ ∀ f, s.res ≠ some (.frame f)) :=
  ⟨⟨holding .flush [.scanner (.err [])], rfl, rfl⟩, ⟨holding .flush [.scanner .ok], rfl, rfl, rfl, rfl⟩,
    ⟨{ holding .flush [.scanner .ok] with res := some .incomplete }, rfl, rfl, by simp⟩⟩

theorem witness_DispatchStep :
    (∃ s : State, s.st = .dispatch ∧ s.res = some (.frame keyFrame) ∧ keyFrame.wf = true ∧ s.ScannerNext ∧
      s.dispatchDone = true) ∧
    (∃ s : State, s.st = .dispatch ∧ s.res = some (.frame keyFrame) ∧ keyFrame.wf = true ∧ s.ScannerNext ∧
      s.dispatchDone = false) :=
  ⟨⟨{ holding .dispatch [.scanner .ok] with dispatchDone := true }, rfl, rfl, rfl, ⟨.ok, rfl⟩, rfl⟩,
    ⟨holding .dispatch [.scanner .ok], rfl, rfl, rfl, ⟨.ok, rfl⟩, rfl⟩⟩

theorem witness_TransportFaultEntry :
    (∃ s : State, s.nextTurn = .scanner (.err []) ∧ s.st = .poll ∧ s.txOpen = true) ∧
    (∃ s : State, s.nextTurn = .scanner (.err []) ∧ s.st = .drain) ∧
    (∃ s : State, s.nextTurn = .scanner (.err []) ∧ s.st = .flush) :=
  ⟨⟨at_ .poll [.scanner (.err [])], rfl, rfl, rfl⟩, ⟨at_ .drain [.scanner (.err [])], rfl, rfl⟩,
    ⟨holding .flush [.scanner (.err [])], rfl, rfl⟩⟩

/-- The state a fault entry leaves. -/
def faulted (ts : List Turn) : State :=
  { at_ .fault ts with txOpen := false, faultCause := .drain, reconnectReq := true }

theorem witness_FaultReturn :
    (∃ s : State, s.st = .fault ∧ s.ScannerNext ∧ s.reconnectDone = true) ∧
    (∃ s : State, s.st = .fault ∧ s.ScannerNext ∧ s.reconnectDone = false) :=
  ⟨⟨{ faulted [.scanner .ok] with reconnectDone := true }, rfl, ⟨.ok, rfl⟩, rfl⟩,
    ⟨faulted [.scanner .ok], rfl, ⟨.ok, rfl⟩, rfl⟩⟩

theorem witness_StatesWithoutStep :
    ((at_ .reset [.scanner .ok]).ScannerNext ∧ (at_ .reset [.scanner .ok]).st = .reset) ∧
    ((at_ .exited [.scanner .ok]).ScannerNext ∧ (at_ .exited [.scanner .ok]).st = .exited) ∧
    ((at_ .poll [.dispatcherDone]).nextTurn = .dispatcherDone ∧ (at_ .poll [.dispatcherDone]).st ≠ .dispatch) ∧
    ((holding .dispatch [.dispatcherDone]).nextTurn = .dispatcherDone ∧
      (holding .dispatch [.dispatcherDone]).st = .dispatch) ∧
    ((at_ .poll [.supervisorDone]).nextTurn = .supervisorDone ∧ (at_ .poll [.supervisorDone]).st ≠ .fault) ∧
    ((faulted [.supervisorDone]).nextTurn = .supervisorDone ∧ (faulted [.supervisorDone]).st = .fault) :=
  ⟨⟨⟨.ok, rfl⟩, rfl⟩, ⟨⟨.ok, rfl⟩, rfl⟩, ⟨rfl, by decide⟩, ⟨rfl, rfl⟩, ⟨rfl, by decide⟩, ⟨rfl, rfl⟩⟩

/-- The next turn of these states is START's request, and CANCEL's. -/
theorem startNext (s : State) (ts : List Turn) (h : s.turns = startTurn :: ts) : s.StartNext :=
  ⟨0x00000003#32, [], 0#8, nextTurn_cons s _ ts h, rfl⟩

theorem cancelNext (s : State) (ts : List Turn) (h : s.turns = cancelTurn :: ts) : s.CancelNext :=
  ⟨0x00000004#32, [], 0#8, nextTurn_cons s _ ts h, rfl⟩

/-- A step that leaves an unused ST as it is (a CALLER's ENCODE), and the three that fault on one. -/
theorem witness_UnusedScanStateFaults :
    (∃ t, step (at_ (.unused 0) [.caller 0x00000000#32 []]) = .next t ∧ t.st = .unused 0) ∧
    ((at_ (.unused 5) [.scanner .ok]).ScannerNext ∧ (at_ (.unused 5) [.scanner .ok]).st = .unused 5) ∧
    (at_ (.unused 5) [startTurn]).StartNext ∧ (at_ (.unused 5) [cancelTurn]).CancelNext :=
  ⟨⟨_, rfl, rfl⟩, ⟨⟨.ok, rfl⟩, rfl⟩, startNext _ [] rfl, cancelNext _ [] rfl⟩

theorem witness_ResetFromAnyState : (holding .dispatch [.ownerResets]).nextTurn = .ownerResets := rfl

/-! Concrete states of the invariant: one that waits, one whose loop has ended, one that presents a frame, one that
holds a fault. -/

theorem inv_poll (ts : List Turn) : (at_ .poll ts).Inv := by
  constructor <;> simp [at_, State.reset, State.ChunkHeld, Params.defaults]

theorem inv_exited (ts : List Turn) : (at_ .exited ts).Inv := by
  constructor <;> simp [at_, State.reset, State.ChunkHeld, Params.defaults]

theorem inv_faulted (ts : List Turn) : (faulted ts).Inv := by
  constructor <;> simp [faulted, at_, State.reset, State.ChunkHeld, Params.defaults]

theorem inv_dispatch (ts : List Turn) : (holding .dispatch ts).Inv := by
  refine ⟨⟨by simp [holding, keyChunk], ⟨keyFrame, rfl⟩, rfl, rfl⟩, ?_, ?_, ?_, ?_, ?_, ?_, ?_, ?_⟩ <;>
    simp [holding, at_, State.reset, Params.defaults]

theorem inv_flush (ts : List Turn) : (holding .flush ts).Inv := by
  refine ⟨⟨by simp [holding, keyChunk], rfl, rfl, rfl⟩, ?_, ?_, ?_, ?_, ?_, ?_, ?_, ?_⟩ <;>
    simp [holding, at_, State.reset, Params.defaults]

/-- The drain's state with the key chunk in RXBUF. -/
def draining (ts : List Turn) : State := { at_ .drain ts with rxbuf := keyChunk }

theorem inv_drain (ts : List Turn) : (draining ts).Inv := by
  constructor <;> simp [draining, at_, State.reset, State.ChunkHeld, Params.defaults]

theorem witness_InvariantKept :
    ∃ s t : State, s.Inv ∧ step s = .next t := ⟨holding .dispatch [.dispatcherDone], _, inv_dispatch _, rfl⟩

theorem witness_InvariantStatesGoOn :
    (∃ s : State, s.Inv ∧ step s = .refused (.malformedRequest 2 0)) ∧
    ∃ s : State, s.Inv ∧ step s = .refused .parameterChange :=
  ⟨⟨at_ .poll [.caller 0x00020001#32 []], inv_poll _, rfl⟩, ⟨at_ .poll [.ownerSetsParams Params.defaults], inv_poll _, rfl⟩⟩

theorem witness_TransitionSummary :
    (∃ s : State, s.Inv ∧ TransitionRow s .classify) ∧ (∃ s : State, s.Inv ∧ TransitionRow s .exited) ∧
    (∃ s t : State, s.Inv ∧ step s = .next t ∧ t.st ≠ s.st) :=
  ⟨⟨draining [.scanner .ok], inv_drain _, .drainBytes rfl rfl (by decide)⟩,
    ⟨at_ .poll [cancelTurn], inv_poll _, .cancel (by decide) (cancelNext _ [] rfl)⟩,
    ⟨draining [.scanner .ok], _, inv_drain _, rfl, by decide⟩⟩

theorem witness_ExitedIsAbsorbing :
    (∃ s : State, s.Inv ∧ s.st = .exited ∧ s.ScannerNext) ∧ (∃ s : State, s.Inv ∧ s.st = .exited ∧ s.StartNext) ∧
    (∃ s : State, s.Inv ∧ s.st = .exited ∧ s.CancelNext) ∧
    (∃ s t : State, s.Inv ∧ s.st = .exited ∧ step s = .next t) :=
  ⟨⟨at_ .exited [.scanner .ok], inv_exited _, rfl, .ok, rfl⟩,
    ⟨at_ .exited [startTurn], inv_exited _, rfl, startNext _ [] rfl⟩,
    ⟨at_ .exited [cancelTurn], inv_exited _, rfl, cancelNext _ [] rfl⟩,
    ⟨at_ .exited [.ownerResets], _, inv_exited _, rfl, rfl⟩⟩

theorem witness_EmptyDrainEndsForGood :
    ∃ (s t : State) (ts : List Turn), s.st = .drain ∧ s.rxbuf = [] ∧ s.turns = .scanner .ok :: ts ∧
      Turn.ownerResets ∉ ts ∧ Host.Core.run Sys2Proof.core (ts.length + 1) s = .next t :=
  ⟨at_ .drain [.scanner .ok, startTurn], _, [startTurn], rfl, rfl, rfl, by decide, rfl⟩

theorem witness_PresentedFrameIsTheChunks :
    ∃ s : State, s.Inv ∧ s.frameOut = some (keyFrame, .short) := ⟨holding .dispatch [], inv_dispatch _, rfl⟩

/-- A drain that fills CHUNK, a flush that presents its frame, a dispatch_done that withdraws it. -/
theorem witness_OneFramePerChunk :
    (∃ s t : State, s.Inv ∧ step s = .next t ∧ s.chunk = [] ∧ t.chunk ≠ []) ∧
    (∃ s t : State, s.Inv ∧ step s = .next t ∧ s.frameOutValid = false ∧ t.frameOutValid = true) ∧
    (∃ s t : State, s.Inv ∧ step s = .next t ∧ s.frameOutValid = true ∧ t.frameOutValid = false) :=
  ⟨⟨draining [.scanner .ok], _, inv_drain _, rfl, rfl, by decide⟩,
    ⟨holding .flush [.scanner .ok], _, inv_flush _, rfl, rfl, rfl⟩,
    ⟨holding .dispatch [cancelTurn], _, inv_dispatch _, rfl, rfl, rfl⟩⟩

theorem witness_FrameHeldUntilDone :
    ∃ s t : State, s.frameOutValid = true ∧ step s = .next t ∧ s.ScannerNext :=
  ⟨holding .dispatch [.scanner .ok], _, rfl, rfl, .ok, rfl⟩

theorem witness_ChecksumNeverGates :
    (∃ s t : State, step s = .next t) ∧ (∃ s : State, step s = .fault .badState) ∧
    ∃ s : State, step s = .refused .parameterChange :=
  ⟨⟨holding .flush [.scanner .ok], _, rfl⟩, ⟨at_ (.unused 3) [.scanner .ok], rfl⟩,
    ⟨at_ .poll [.ownerSetsParams Params.defaults], rfl⟩⟩

theorem witness_FaultCauseInformational :
    ∃ s t : State, step s = .next t ∧ t.faultCause ≠ s.faultCause :=
  ⟨at_ .drain [.scanner (.err [])], _, rfl, by decide⟩

/-- A fault entry, a fault return, CANCEL and reset. -/
theorem witness_ReconnectRequestLevel :
    (∃ s t : State, step s = .next t ∧ s.reconnectReq = false ∧ t.reconnectReq = true ∧ t.st = .fault ∧ s.st ≠ .fault) ∧
    (∃ s t : State, step s = .next t ∧ s.reconnectReq = true ∧ t.reconnectReq = false ∧ s.st = .fault ∧
      s.ScannerNext ∧ s.reconnectDone = true) ∧
    (∃ s t : State, step s = .next t ∧ s.reconnectReq = true ∧ s.CancelNext ∧ t.st ≠ s.st) ∧
    (∃ s t : State, step s = .next t ∧ s.reconnectReq = true ∧ s.nextTurn = .ownerResets) :=
  ⟨⟨at_ .drain [.scanner (.err [])], _, rfl, rfl, rfl, rfl, by decide⟩,
    ⟨{ faulted [.scanner .ok] with reconnectDone := true }, _, rfl, rfl, rfl, rfl, ⟨.ok, rfl⟩, rfl⟩,
    ⟨faulted [cancelTurn], _, rfl, rfl, cancelNext _ [] rfl, by decide⟩, ⟨faulted [.ownerResets], _, rfl, rfl, rfl⟩⟩

/-- Each event is raised somewhere. -/
theorem witness_EventsMarkEntry :
    (∃ s t : State, step s = .next t ∧ t.event = some (.disconnect .drain)) ∧
    (∃ s t : State, step s = .next t ∧ t.event = some (.loopExit .closed)) ∧
    (∃ s t : State, step s = .next t ∧ t.event = some (.loopExit .emptyDrain)) ∧
    (∃ s t : State, step s = .next t ∧ t.event = some (.loopExit .cancelled)) ∧
    (∃ s t : State, step s = .next t ∧ t.st = .exited ∧ s.st ≠ .exited) :=
  ⟨⟨at_ .drain [.scanner (.err [])], _, rfl, rfl⟩, ⟨{ at_ .poll [.scanner .ok] with txOpen := false }, _, rfl, rfl⟩,
    ⟨at_ .drain [.scanner .ok], _, rfl, rfl⟩, ⟨at_ .poll [cancelTurn], _, rfl, rfl⟩,
    ⟨holding .flush [cancelTurn], _, rfl, rfl, by decide⟩⟩

theorem witness_ParametersNeverChange :
    (∃ s t : State, step s = .next t) ∧
    (at_ .poll [.ownerSetsParams Params.defaults]).nextTurn = .ownerSetsParams Params.defaults :=
  ⟨⟨at_ .poll [.scanner .ok], _, rfl⟩, rfl⟩

theorem witness_IntervalsHaveNoEffect : ∃ s t : State, step s = .next t := ⟨at_ .poll [.scanner .ok], _, rfl⟩

theorem witness_ReceiveBufferRules :
    (at_ .poll [.transportReceives [0x3F#8]]).nextTurn = .transportReceives [0x3F#8] ∧
    (draining [.transportDrops]).nextTurn = .transportDrops ∧
    ∃ s t : State, step s = .next t ∧ t.rxbuf ≠ s.rxbuf := ⟨rfl, rfl, draining [.scanner .ok], _, rfl, by decide⟩

theorem witness_OpenFlagRules :
    (faulted [.supervisorOpens]).nextTurn = .supervisorOpens ∧
    (at_ .poll [.transportCloses]).nextTurn = .transportCloses ∧
    (∃ s t : State, step s = .next t ∧ s.txOpen = false ∧ t.txOpen = true) ∧
    (∃ s t : State, step s = .next t ∧ s.txOpen = true ∧ t.txOpen = false) :=
  ⟨rfl, rfl, ⟨faulted [.supervisorOpens], _, rfl, rfl, rfl⟩, ⟨at_ .poll [.transportCloses], _, rfl, rfl, rfl⟩⟩

theorem witness_WritesDoNotInterleave :
    (∃ s t : State, step s = .next t) ∧
    (at_ .poll [.callerWrites [0x3F#8] true]).nextTurn = .callerWrites [0x3F#8] true :=
  ⟨⟨at_ .poll [.callerWrites [0x3F#8] true], _, rfl⟩, rfl⟩

theorem witness_CodecAndScannerCommute :
    decode (.request 0x00030001#32 keyChunk) = .ok (.decode 0#8 keyChunk) ∧
    ∃ t, Host.Core.run Sys2Proof.core 2
      { draining [] with turns := [.caller 0x00030001#32 keyChunk, .scanner .ok] } = .next t := ⟨rfl, _, rfl⟩

theorem witness_StartBeforeOpenEndsTheLoop :
    ∃ s : State, s.st = .reset ∧ s.txOpen = false ∧
      s.turns = [.caller 0x00000003#32 [], .scanner .ok, .caller 0x00000003#32 []] :=
  ⟨{ State.reset with turns := [startTurn, .scanner .ok, startTurn] }, rfl, rfl, rfl⟩

/-- A frame of either shape in RXBUF of a polling scanner. -/
theorem witness_EncodedFrameIsDelivered :
    ∀ x ∈ [((0x3F#8 : Byte), [0x09#8]), (0x41#8, zeros 16)], ∃ (s : State) (e : List Byte),
      s.Inv ∧ s.st = .poll ∧ s.txOpen = true ∧ ((x.1 = 0x3F#8 ∧ x.2.length = 1) ∨ (x.1 = 0x41#8 ∧ x.2.length = 16)) ∧
      encodeFrame Config.checksum16 x.1 x.2 = .ok e ∧ s.rxbuf = e ++ [0x41#8] ∧
      s.turns = [.scanner .ok, .settleTimerExpires, .scanner .ok, .scanner .ok, .scanner .ok, .transportReceives [],
        .scanner .ok] := by
  intro x hx
  obtain ⟨e, he⟩ : ∃ e, encodeFrame Config.checksum16 x.1 x.2 = .ok e := by
    refine ⟨_, encodeFrame_ok _ _ _ ?_⟩
    simp only [List.mem_cons, List.not_mem_nil, or_false] at hx
    rcases hx with rfl | rfl <;> decide
  refine ⟨{ at_ .poll [.scanner .ok, .settleTimerExpires, .scanner .ok, .scanner .ok, .scanner .ok,
    .transportReceives [], .scanner .ok] with rxbuf := e ++ [0x41#8] }, e, ?_, rfl, rfl, ?_, he, rfl, rfl⟩
  · constructor <;> simp [at_, State.reset, State.ChunkHeld, Params.defaults]
  · simp only [List.mem_cons, List.not_mem_nil, or_false] at hx
    rcases hx with rfl | rfl <;> decide

end Sys2Proof.Tests
end

section
/-! The family 10_state.md: the codec unit without state (R21), the reset values (R36), and RECONNECT_REQ (R28). -/

namespace Sys2Proof.Machine

/-! ## The codec unit and reset -/

theorem exec_encode (cmd : Byte) (payload : List Byte) (s : State) :
    exec (.encode cmd payload) s = .next (respond (encodeResponse Config.checksum16 cmd payload) s) := rfl

theorem exec_decode (cmd : Byte) (chunk : List Byte) (s : State) :
    exec (.decode cmd chunk) s = .next (respond (decodeResponse chunk) s) := rfl

theorem exec_validate (cmd : Byte) (chunk : List Byte) (s : State) :
    exec (.validate cmd chunk) s = .next (respond (validateResponse Config.checksum16 chunk) s) := rfl

/-- Settles O16: each answer is named by a function of the request alone, and `respond` writes only the response. -/
theorem codecUnitStateless : Obligations.CodecUnitStateless :=
  ⟨fun cmd p => ⟨encodeResponse Config.checksum16 cmd p, exec_encode cmd p⟩,
    fun cmd c => ⟨decodeResponse c, exec_decode cmd c⟩,
    fun cmd c => ⟨validateResponse Config.checksum16 c, exec_validate cmd c⟩⟩

theorem frameOutValid_eq_false_iff (s : State) : s.frameOutValid = false ↔ s.st ≠ .dispatch := by
  simp [State.frameOutValid]

/-- Settles O38: `State.reset` writes R36's table down; FRAME_OUT.valid is 0 because ST is not S_DISPATCH. -/
theorem resetValues : Obligations.ResetValues := by
  have hvalid : State.reset.frameOutValid = false := (frameOutValid_eq_false_iff _).mpr (by decide)
  exact ⟨rfl, rfl, rfl, rfl, rfl, rfl, hvalid, rfl, rfl⟩

/-! ## RECONNECT_REQ -/

/-- What a step can do to RECONNECT_REQ: one constructor for each cause that R28 names, and `kept` for every step
that is none of them. -/
inductive ReconnectMove (s t : State) : Prop where
  /-- Fault entry sets it (R196). -/
  | faultEntry (cause : FaultCause) : s.ScannerNext → s.st ≠ .fault → t.st = .fault →
      t.event = some (.disconnect cause) → t.reconnectReq = true → ReconnectMove s t
  /-- The scanner's step that takes reconnect_done clears it (R197). -/
  | faultReturn : s.ScannerNext → s.st = .fault → s.reconnectDone = true → t.st = .poll → t.reconnectReq = false →
      ReconnectMove s t
  /-- A CANCEL that takes effect clears it (R142). -/
  | cancelled : s.CancelNext → t.st = .exited → t.reconnectReq = false → ReconnectMove s t
  /-- Reset clears it (R220). -/
  | reset : s.nextTurn = .ownerResets → t.st = .reset → t.reconnectReq = false → ReconnectMove s t
  | kept : t.reconnectReq = s.reconnectReq → (t.st = .fault → s.st = .fault) →
      (s.st = .fault → s.ScannerNext → s.reconnectDone = false) → (s.CancelNext → t.st = s.st) →
      s.nextTurn ≠ .ownerResets → ReconnectMove s t

/-- When a decoded request is next, CANCEL is next if and only if that request is one. -/
theorem cancelNext_iff_of_caller {s : State} {h : HeaderWord} {data : List Byte} {i : Instr}
    (hn : s.nextTurn = .caller h data) (hi : decode (.request h data) = .ok i) :
    s.CancelNext ↔ ∃ cmd, i = .cancel cmd := by
  constructor
  · rintro ⟨h', data', cmd, hn', hi'⟩
    obtain ⟨rfl, rfl⟩ : h = h' ∧ data = data' := by simpa [hn] using hn'
    exact ⟨cmd, by simpa [hi] using hi'⟩
  · rintro ⟨cmd, rfl⟩
    exact ⟨h, data, cmd, hn, hi⟩

theorem not_scannerNext_of_caller {s : State} {h : HeaderWord} {data : List Byte} (hn : s.nextTurn = .caller h data) :
    ¬ s.ScannerNext := by
  simp [State.ScannerNext, hn]

theorem not_cancelNext_of_scannerNext {s : State} (hs : s.ScannerNext) : ¬ s.CancelNext := by
  obtain ⟨tx, hn⟩ := hs
  simp [State.CancelNext, hn]

theorem not_ownerResets_of_scannerNext {s : State} (hs : s.ScannerNext) : s.nextTurn ≠ .ownerResets := by
  obtain ⟨tx, hn⟩ := hs
  simp [hn]

/-- A scanner's step that raises a transport fault, whatever its cause, sets RECONNECT_REQ. -/
theorem reconnectMove_raiseTransportFault {s : State} (cause : FaultCause) (left : List Byte) (hs : s.ScannerNext)
    (hst : s.st ≠ .fault) : ReconnectMove s (raiseTransportFault cause { s.begin with rxbuf := left }) :=
  .faultEntry cause hs hst (by simp) (by simp) (by simp)

/-- A scanner's step outside S_FAULT that does not enter it is none of R28's causes. -/
theorem reconnectMove_of_scanner_outside_fault {s t : State} (hs : s.ScannerNext) (hst : s.st ≠ .fault)
    (htst : t.st ≠ .fault) (hreq : t.reconnectReq = s.reconnectReq) : ReconnectMove s t :=
  .kept hreq (absurd · htst) (absurd · hst) (absurd · (not_cancelNext_of_scannerNext hs))
    (not_ownerResets_of_scannerNext hs)

theorem scannerMove_reconnectMove {tx : TxDraw} {s t : State} (hn : s.nextTurn = .scanner tx)
    (hm : ScannerMove tx s.begin t) : ReconnectMove s t := by
  have hs : s.ScannerNext := ⟨tx, hn⟩
  cases hm with
  | pollErr left hst => exact reconnectMove_raiseTransportFault .query left hs (by simp_all)
  | drainErr left hst => exact reconnectMove_raiseTransportFault .drain left hs (by simp_all)
  | flushErr left hst => exact reconnectMove_raiseTransportFault .flush left hs (by simp_all)
  | reconnectDone hst hdone => exact .faultReturn hs (by simpa using hst) (by simpa using hdone) (by simp) (by simp)
  | wait hw =>
    have hwait : s.st = .fault → s.reconnectDone = false := by
      intro hst
      simpa [hst] using hw
    exact .kept (by simp) (by simp) (fun hst _ => hwait hst) (by simp) (not_ownerResets_of_scannerNext hs)
  | _ => exact reconnectMove_of_scanner_outside_fault hs (by simp_all) (by simp) (by simp)

theorem requestEffect_reconnectMove {h : HeaderWord} {data : List Byte} {i : Instr} {s t : State}
    (hn : s.nextTurn = .caller h data) (hi : decode (.request h data) = .ok i) (he : RequestEffect i s.begin t) :
    ReconnectMove s t := by
  have hreset : s.nextTurn ≠ .ownerResets := by simp [hn]
  have hcancel := cancelNext_iff_of_caller hn hi
  have hscan := not_scannerNext_of_caller hn
  cases he with
  | answered r => exact .kept (by simp) (by simp) (fun _ hs => absurd hs hscan) (by simp) hreset
  | started cmd hstart =>
    exact .kept (by simp) (by simp) (fun _ hs => absurd hs hscan) (by simp [hcancel, hstart]) hreset
  | cancelled cmd hc => exact .cancelled (hcancel.mpr ⟨cmd, hc⟩) (by simp) (by simp)

/-- The inversion lemma of a step, for RECONNECT_REQ. -/
theorem step_reconnectMove {s t : State} (h : step s = .next t) : ReconnectMove s t := by
  cases step_move h with
  | request hd data i t hn hi he => exact requestEffect_reconnectMove hn hi he
  | scanner tx t hn hm => exact scannerMove_reconnectMove hn hm
  | reset hn => exact .reset hn (by simp) (by simp)
  | _ => exact .kept (by simp) (by simp) (by simp [State.ScannerNext, *]) (by simp) (by simp [*])

/-- Settles O51: by `step_reconnectMove` a step is one of R28's four causes or keeps RECONNECT_REQ, and the causes
exclude each other by the turn that is next or by ST. -/
theorem reconnectRequestLevel : Obligations.ReconnectRequestLevel := by
  intro s t h
  cases step_reconnectMove h with
  | faultEntry cause hs hst htst hev hreq =>
    have hcancel := not_cancelNext_of_scannerNext hs
    have hreset := not_ownerResets_of_scannerNext hs
    exact ⟨fun _ _ => ⟨htst, cause, hev⟩, by simp [hreq], fun _ _ => hreq, (absurd · hst),
      (absurd · hcancel), (absurd · hreset)⟩
  | faultReturn hs hst hdone htst hreq =>
    exact ⟨by simp [hreq], fun _ _ => .inl ⟨hst, hs, hdone, htst⟩, by simp [htst], fun _ _ _ => hreq,
      fun _ _ => hreq, fun _ => hreq⟩
  | cancelled hcancel htst hreq =>
    exact ⟨by simp [hreq], fun _ _ => .inr (.inl hcancel), by simp [htst], fun _ _ _ => hreq, fun _ _ => hreq,
      fun _ => hreq⟩
  | reset hreset htst hreq =>
    exact ⟨by simp [hreq], fun _ _ => .inr (.inr hreset), by simp [htst], fun _ _ _ => hreq, fun _ _ => hreq,
      fun _ => hreq⟩
  | kept hreq hin hdone hcancel hreset =>
    exact ⟨by simp +contextual [hreq], by simp +contextual [hreq], fun htst hst => absurd (hin htst) hst,
      fun hst hs hd => by simp [hdone hst hs] at hd, fun hc hne => absurd (hcancel hc) hne, (absurd · hreset)⟩

end Sys2Proof.Machine
end

section
/-! The family 30_encoding.md: the layout of every response (R82), and illegal request formats (R83). -/

namespace Sys2Proof.Machine

/-! ## The layout of a response (R82) -/

/-- What R82 asks of the header of every response, whichever operation gave it: the zero field, the count of the data
bytes, and a status code of R190. -/
structure Response.LaidOut (r : Response) : Prop where
  zeroField : r.zeroField = 0#6
  rcountField : r.rcountField.toNat = r.data.length
  statusField : r.statusField.toNat ≤ 5

/-- A response is laid out as long as the 16-bit rcount can count its data bytes. -/
theorem make_laidOut (status : Status) (crc : CrcStatus) {data : List Byte} (hlen : data.length < 65536) :
    (Response.make status crc data).LaidOut where
  zeroField := make_zeroField _ _ _
  rcountField := by simp [Nat.mod_eq_of_lt hlen]
  statusField := by simpa using status_code_le status

theorem bare_laidOut (status : Status) : (Response.bare status).LaidOut := make_laidOut _ _ (by decide)

@[simp] theorem bare_data (status : Status) : (Response.bare status).data = [] := rfl

@[simp] theorem bare_crcField (status : Status) : (Response.bare status).crcField = 0b11#2 := make_crcField _ _ _

@[simp] theorem bare_statusField (status : Status) : (Response.bare status).statusField = status.code :=
  make_statusField _ _ _

/-! ## What each operation answers -/

/-- ENCODE answers OK with the wire frame, of at most 259 bytes, or PAYLOAD_TOO_LARGE. -/
theorem encodeResponse_cases (ck : List Byte → Half) (cmd : Byte) (p : List Byte) :
    (∃ e, encodeFrame ck cmd p = .ok e ∧ e.length ≤ 259 ∧ encodeResponse ck cmd p = Response.make .ok .none e) ∨
    encodeResponse ck cmd p = Response.bare .payloadTooLarge := by
  by_cases hp : p.length ≤ 255
  · have hok := encodeFrame_ok ck cmd p hp
    exact .inl ⟨_, hok, by simp only [List.length_cons, List.length_append, checksumBytes_length]; omega,
      by simp [encodeResponse, hok]⟩
  · have herr := encodeFrame_error ck cmd p (by omega)
    exact .inr (by simp [encodeResponse, herr])

/-- A frame that DECODE produces is the one of a shape whose payload region lies inside the chunk (R102). -/
theorem decodeChunk_eq_frame {c : List Byte} {f : Frame} (h : decodeChunk c = .frame f) :
    ∃ sh : Shape, 2 + sh.payloadLen ≤ c.length ∧
      f = ⟨sh.code, BitVec.ofNat 8 sh.payloadLen, memRead c 2 sh.payloadLen, 0#16⟩ := by
  obtain ⟨-, hd⟩ | ⟨b0, rest, sh, -, -, hd⟩ | ⟨b0, rest, -, -, hd⟩ := decodeChunk_cases c
  · simp [hd] at h
  · by_cases hlen : c.length < 2 + sh.payloadLen
    · simp [hd, extractShape_short sh c hlen] at h
    · refine ⟨sh, by omega, ?_⟩
      simpa [hd, extractShape_long sh c (by omega)] using h.symm
  · simp [hd] at h

theorem payloadLen_le (sh : Shape) : sh.payloadLen ≤ 16 := by cases sh <;> decide

theorem decodeChunk_frame_payload_length_le {c : List Byte} {f : Frame} (h : decodeChunk c = .frame f) :
    f.payload.length ≤ 16 := by
  obtain ⟨sh, hlen, rfl⟩ := decodeChunk_eq_frame h
  simpa [memRead_length c 2 sh.payloadLen hlen] using payloadLen_le sh

/-- DECODE answers OK with the frame's command, length and payload, or a status other than OK and no data. -/
theorem decodeResponse_cases (c : List Byte) :
    (∃ f, decodeChunk c = .frame f ∧
      decodeResponse c = Response.make .ok .none (f.command :: f.length :: f.payload)) ∨
    ∃ status, status.code ≠ 0x00#8 ∧ decodeResponse c = Response.bare status := by
  cases hd : decodeChunk c with
  | frame f => exact .inl ⟨f, rfl, by simp [decodeResponse, hd]⟩
  | incomplete => exact .inr ⟨.incomplete, by decide, by simp [decodeResponse, hd]⟩
  | unrecognized => exact .inr ⟨.unrecognized, by decide, by simp [decodeResponse, hd]⟩

/-- What R82 asks of the answer to ENCODE. -/
theorem encodeResponse_follows (ck : List Byte → Half) (cmd : Byte) (p : List Byte) :
    (encodeResponse ck cmd p).LaidOut ∧ (encodeResponse ck cmd p).crcField = 0b11#2 ∧
    ((encodeResponse ck cmd p).statusField = 0x00#8 → encodeFrame ck cmd p = .ok (encodeResponse ck cmd p).data) ∧
    ((encodeResponse ck cmd p).statusField ≠ 0x00#8 → (encodeResponse ck cmd p).data = []) := by
  obtain ⟨e, hok, hlen, hr⟩ | hr := encodeResponse_cases ck cmd p <;> rw [hr]
  · exact ⟨make_laidOut _ _ (by omega), make_crcField _ _ _, fun _ => hok, (absurd (make_statusField _ _ _) ·)⟩
  · exact ⟨bare_laidOut _, bare_crcField _, by simp [Status.code], fun _ => rfl⟩

/-- What R82 asks of the answer to DECODE. -/
theorem decodeResponse_follows (c : List Byte) :
    (decodeResponse c).LaidOut ∧ (decodeResponse c).crcField = 0b11#2 ∧
    ((decodeResponse c).statusField = 0x00#8 →
      ∃ f, decodeChunk c = .frame f ∧ (decodeResponse c).data = f.command :: f.length :: f.payload) ∧
    ((decodeResponse c).statusField ≠ 0x00#8 → (decodeResponse c).data = []) := by
  obtain ⟨f, hf, hr⟩ | ⟨status, hne, hr⟩ := decodeResponse_cases c <;> rw [hr]
  · have hlen := decodeChunk_frame_payload_length_le hf
    exact ⟨make_laidOut _ _ (by simp only [List.length_cons]; omega), make_crcField _ _ _, fun _ => ⟨f, hf, rfl⟩,
      (absurd (make_statusField _ _ _) ·)⟩
  · exact ⟨bare_laidOut _, bare_crcField _, by simp [hne], fun _ => rfl⟩

theorem validateResponse_laidOut (ck : List Byte → Half) (c : List Byte) : (validateResponse ck c).LaidOut :=
  make_laidOut _ _ (by decide)

theorem execStart_bare {cmd : Byte} {s t : State} (h : execStart cmd s = .next t) :
    ∃ status, t.response = some (Response.bare status) := by
  unfold execStart at h
  split at h <;> cases h <;> exact ⟨_, rfl⟩

theorem execCancel_bare {cmd : Byte} {s t : State} (h : execCancel cmd s = .next t) :
    ∃ status, t.response = some (Response.bare status) := by
  unfold execCancel at h
  split at h <;> cases h <;> exact ⟨_, rfl⟩

theorem badOp_bare {s t : State} (h : badOp s = .next t) : ∃ status, t.response = some (Response.bare status) := by
  cases h
  exact ⟨.badOp, rfl⟩

/-- A bare response is all that R82 asks of an operation outside the codec unit. -/
theorem bare_follows {t : State} (h : ∃ status, t.response = some (Response.bare status)) :
    ∃ r, t.response = some r ∧ r.zeroField = 0#6 ∧ r.rcountField.toNat = r.data.length ∧
      r.statusField.toNat ≤ 5 ∧ r.crcField = 0b11#2 ∧ r.data = [] := by
  obtain ⟨status, ht⟩ := h
  obtain ⟨hzero, hrcount, hstatus⟩ := bare_laidOut status
  exact ⟨_, ht, hzero, hrcount, hstatus, bare_crcField status, rfl⟩

/-- Settles O6: one case for each request row, by what its operation answers; a request is no byte-0 row. -/
theorem responsesFollowFormat : Obligations.ResponsesFollowFormat := by
  intro h data i s t hd he
  obtain ⟨hkey, hbroadcast, hunrecognized⟩ := decodeRow_not_shape (hdrOp h) (hdrRsv h) (hdrCmd h) data
  obtain ⟨-, hi⟩ := decode_request_ok hd
  cases i with
  | encode cmd p =>
    rw [exec_encode] at he
    cases he
    obtain ⟨⟨hzero, hrcount, hstatus⟩, hcontent⟩ := encodeResponse_follows Config.checksum16 cmd p
    exact ⟨_, rfl, hzero, hrcount, hstatus, hcontent⟩
  | decode cmd c =>
    rw [exec_decode] at he
    cases he
    obtain ⟨⟨hzero, hrcount, hstatus⟩, hcontent⟩ := decodeResponse_follows c
    exact ⟨_, rfl, hzero, hrcount, hstatus, hcontent⟩
  | validate cmd c =>
    rw [exec_validate] at he
    cases he
    obtain ⟨hzero, hrcount, hstatus⟩ := validateResponse_laidOut Config.checksum16 c
    exact ⟨_, rfl, hzero, hrcount, hstatus, make_statusField _ _ _, make_crcField _ _ _, rfl⟩
  | start cmd => exact bare_follows (execStart_bare (cmd := cmd) he)
  | cancel cmd => exact bare_follows (execCancel_bare (cmd := cmd) he)
  | reservedOp5 | reservedOp6 | reservedOp7 | illegalRequest => exact bare_follows (badOp_bare he)
  | keyStatusShape => exact absurd hi.symm hkey
  | broadcastShape => exact absurd hi.symm hbroadcast
  | unrecognized b0 => exact absurd hi.symm (hunrecognized b0)

/-! ## Illegal request formats (R83) -/

/-- A request that is no reserved op and has a reason to be illegal is read by the last row. -/
theorem decodeRow_illegalRequest {op : BitVec 3} {rsv : BitVec 5} {data : List Byte} (cmd : Byte) (h5 : op ≠ 5#3)
    (h6 : op ≠ 6#3) (h7 : op ≠ 7#3) (h : illegalReason op rsv data) :
    decodeRow op rsv cmd data = .illegalRequest op rsv cmd data := by
  by_cases hrsv : rsv = 0#5
  · obtain ⟨hop, hdata⟩ := h.resolve_left (absurd hrsv ·)
    obtain rfl | rfl := hop <;> simp [decodeRow, hrsv, hdata]
  · simp [decodeRow, h5, h6, h7, hrsv]

/-- Every request of an illegal format is run as BAD_OP, whichever of the four rows reads it. -/
theorem exec_decodeRow_illegal {op : BitVec 3} {rsv : BitVec 5} {data : List Byte} (cmd : Byte) (s : State)
    (h : op = 5#3 ∨ op = 6#3 ∨ op = 7#3 ∨ illegalReason op rsv data) :
    exec (decodeRow op rsv cmd data) s = badOp s := by
  by_cases h5 : op = 5#3
  · simp [decodeRow, h5, exec, execReservedOp5]
  by_cases h6 : op = 6#3
  · simp [decodeRow, h6, exec, execReservedOp6]
  by_cases h7 : op = 7#3
  · simp [decodeRow, h7, exec, execReservedOp7]
  have hreason : illegalReason op rsv data := ((h.resolve_left h5).resolve_left h6).resolve_left h7
  rw [decodeRow_illegalRequest cmd h5 h6 h7 hreason]
  rfl

/-- Data of the announced length are there when the announced length is not 0. -/
theorem data_ne_nil_of_hdrCount_ne_zero {h : HeaderWord} {data : List Byte}
    (hlen : data.length = (hdrCount h).toNat) (hcount : hdrCount h ≠ 0#16) : data ≠ [] := by
  rintro rfl
  exact hcount (BitVec.eq_of_toNat_eq (by simpa using hlen.symm))

/-- Settles O20: the step decodes the request, and `exec_decodeRow_illegal` answers it BAD_OP in every state. -/
theorem formatCheckedFirst : Obligations.FormatCheckedFirst := by
  intro h data s hn hlen hillegal
  have hrow : hdrOp h = 5#3 ∨ hdrOp h = 6#3 ∨ hdrOp h = 7#3 ∨ illegalReason (hdrOp h) (hdrRsv h) data := by
    obtain h5 | h6 | h7 | hrsv | ⟨hop, hcount⟩ := hillegal
    · exact .inl h5
    · exact .inr (.inl h6)
    · exact .inr (.inr (.inl h7))
    · exact .inr (.inr (.inr (.inl hrsv)))
    · exact .inr (.inr (.inr (.inr ⟨hop, data_ne_nil_of_hdrCount_ne_zero hlen hcount⟩)))
  calc step s
    _ = runEncoded (.request h data) s.begin := step_caller hn
    _ = exec (decodeRow (hdrOp h) (hdrRsv h) (hdrCmd h) data) s.begin := runEncoded_ok _ (decode_request hlen)
    _ = badOp s.begin := exec_decodeRow_illegal _ _ hrow
    _ = .next { s.begin with response := some { header := 0x00000304#32, data := [] } } := rfl

end Sys2Proof.Machine
end

section
/-! The family 40_codec.md: what ENCODE, DECODE and VALIDATE answer (R101, R102, R103, R108), the shape of ENCODE's
output (R104), the round-trip table (R105), and the verdicts on a chunk that is appended to (R107). -/

namespace Sys2Proof.Machine

/-! ## ENCODE (R101, R104) -/

/-- ENCODE's output, whenever there is one: the payload is not too long, and it stands between header and checksum. -/
theorem eq_of_encodeFrame_eq_ok {ck : List Byte → Half} {cmd : Byte} {p e : List Byte}
    (h : encodeFrame ck cmd p = .ok e) :
    p.length ≤ 255 ∧ e = cmd :: BitVec.ofNat 8 p.length ::
      (p ++ checksumBytes (ck (cmd :: BitVec.ofNat 8 p.length :: p))) := by
  by_cases hp : p.length ≤ 255
  · rw [encodeFrame_ok ck cmd p hp] at h
    exact ⟨hp, (Except.ok.inj h).symm⟩
  · simp [encodeFrame_error ck cmd p (by omega)] at h

/-- What is read back from ENCODE's output (R104). -/
theorem encodeFrame_readBack {ck : List Byte → Half} {cmd : Byte} {p e : List Byte}
    (h : encodeFrame ck cmd p = .ok e) :
    e.length = 4 + p.length ∧ e[0]? = some cmd ∧ e[1]? = some (BitVec.ofNat 8 p.length) ∧ memRead e 2 p.length = p := by
  obtain ⟨-, rfl⟩ := eq_of_encodeFrame_eq_ok h
  refine ⟨?_, rfl, rfl, by simp [memRead]⟩
  simp only [List.length_cons, List.length_append, checksumBytes_length]
  omega

/-- A length byte states one payload length of at most 255. -/
theorem ofNat8_length_inj {p q : List Byte} (hp : p.length ≤ 255) (hq : q.length ≤ 255)
    (h : BitVec.ofNat 8 p.length = BitVec.ofNat 8 q.length) : p.length = q.length := by
  have htoNat := congrArg BitVec.toNat h
  simp only [BitVec.toNat_ofNat] at htoNat
  omega

/-- ENCODE is injective where it answers: command, length and payload are read back from its output (R104). -/
theorem encodeFrame_inj {ck : List Byte → Half} {cmd cmd' : Byte} {p p' e : List Byte}
    (h : encodeFrame ck cmd p = .ok e) (h' : encodeFrame ck cmd' p' = .ok e) : cmd = cmd' ∧ p = p' := by
  obtain ⟨-, hcmd, hlen, hp⟩ := encodeFrame_readBack h
  obtain ⟨-, hcmd', hlen', hp'⟩ := encodeFrame_readBack h'
  obtain ⟨hmax, -⟩ := eq_of_encodeFrame_eq_ok h
  obtain ⟨hmax', -⟩ := eq_of_encodeFrame_eq_ok h'
  have hL : p.length = p'.length := ofNat8_length_inj hmax hmax' (Option.some.inj (hlen.symm.trans hlen'))
  have hpayload : p = p' := by rw [← hp, hL, hp']
  exact ⟨Option.some.inj (hcmd.symm.trans hcmd'), hpayload⟩

/-- Settles O8: the layout and the injectivity are both what `encodeFrame_readBack` reads from the output. -/
theorem encodeOutputShape : Obligations.EncodeOutputShape := by
  intro ck cmd p hp
  have hok := encodeFrame_ok ck cmd p hp
  exact ⟨⟨_, hok, encodeFrame_readBack hok⟩, fun cmd' p' _ heq => encodeFrame_inj hok (heq ▸ hok)⟩

/-- The header of a response whose data bytes are counted (R82). -/
theorem make_of_length {status : Status} {crc : CrcStatus} {data : List Byte} {n : Nat} (h : data.length = n) :
    Response.make status crc data = ⟨BitVec.ofNat 16 n ++ 0#6 ++ crc.code ++ status.code, data⟩ := by
  rw [Response.make, h]

theorem exec_encode_ok {cmd : Byte} {p e : List Byte} (s : State) (h : encodeFrame Config.checksum16 cmd p = .ok e) :
    exec (.encode cmd p) s = .next (respond (Response.make .ok .none e) s) := by
  rw [exec_encode, encodeResponse, h]

theorem exec_encode_error {cmd : Byte} {p : List Byte} {status : Status} (s : State)
    (h : encodeFrame Config.checksum16 cmd p = .error status) :
    exec (.encode cmd p) s = .next (respond (Response.bare status) s) := by
  rw [exec_encode, encodeResponse, h]

/-- Settles O7: the two answers of `encodeFrame`, at most 255 bytes and above, each with its response's header. -/
theorem encodeAnswers : Obligations.EncodeAnswers := by
  intro cmd p s
  constructor
  · intro hp
    have hok := encodeFrame_ok Config.checksum16 cmd p hp
    obtain ⟨hlen, -⟩ := encodeFrame_readBack hok
    rw [exec_encode_ok s hok, make_of_length hlen]
    rfl
  · intro hp
    rw [exec_encode_error s (encodeFrame_error Config.checksum16 cmd p hp)]
    rfl

/-! ## DECODE (R102, R108) -/

@[simp] theorem shapeOf_code (sh : Shape) : shapeOf sh.code = some sh := by cases sh <;> rfl

/-- A chunk of a known shape without its whole payload region. -/
theorem decodeChunk_code_short (sh : Shape) {rest : List Byte} (h : rest.length < 1 + sh.payloadLen) :
    decodeChunk (sh.code :: rest) = .incomplete := by
  rw [decodeChunk_cons _ _ sh (shapeOf_code sh), extractShape_short]
  simp only [List.length_cons]
  omega

/-- A chunk of a known shape with its whole payload region: the payload is taken from index 2, whatever byte 1 is. -/
theorem decodeChunk_code_long (sh : Shape) (len : Byte) {body : List Byte} (h : sh.payloadLen ≤ body.length) :
    decodeChunk (sh.code :: len :: body) =
      .frame ⟨sh.code, BitVec.ofNat 8 sh.payloadLen, body.take sh.payloadLen, 0#16⟩ := by
  rw [decodeChunk_cons _ _ sh (shapeOf_code sh), extractShape_long]
  · rfl
  · simp only [List.length_cons]
    omega

/-- A chunk that holds the payload of its shape whole, whatever follows it. -/
theorem decodeChunk_code_payload (sh : Shape) (len : Byte) {p : List Byte} (rest : List Byte)
    (h : p.length = sh.payloadLen) :
    decodeChunk (sh.code :: len :: (p ++ rest)) = .frame ⟨sh.code, BitVec.ofNat 8 sh.payloadLen, p, 0#16⟩ := by
  rw [decodeChunk_code_long sh len (by simp [h]), List.take_left' h]

/-- DECODE sends command, length and payload of the frame, and not its checksum (R102). -/
theorem exec_decode_frame (cmd : Byte) {c : List Byte} {f : Frame} {n : Nat} (s : State) (h : decodeChunk c = .frame f)
    (hn : f.payload.length = n) :
    exec (.decode cmd c) s = .next { s with
      response := some
        { header := BitVec.ofNat 16 (n + 2) ++ 0#6 ++ 0b11#2 ++ 0x00#8
          data := f.command :: f.length :: f.payload } } := by
  have hlen : (f.command :: f.length :: f.payload).length = n + 2 := by simp [hn]
  have hr : decodeResponse c = Response.make .ok .none (f.command :: f.length :: f.payload) := by
    rw [decodeResponse, h]
  rw [exec_decode, hr, make_of_length hlen]
  rfl

theorem exec_decode_incomplete (cmd : Byte) {c : List Byte} (s : State) (h : decodeChunk c = .incomplete) :
    exec (.decode cmd c) s = .next { s with response := some { header := 0x00000302#32, data := [] } } := by
  rw [exec_decode, decodeResponse, h]
  rfl

theorem exec_decode_unrecognized (cmd : Byte) {c : List Byte} (s : State) (h : decodeChunk c = .unrecognized) :
    exec (.decode cmd c) s = .next { s with response := some { header := 0x00000303#32, data := [] } } := by
  rw [exec_decode, decodeResponse, h]
  rfl

/-- Settles O9: one clause for each way `decodeChunk` answers, by the shape of byte 0 and the length of the chunk;
the response then follows from the verdict alone. -/
theorem decodeAnswers : Obligations.DecodeAnswers := by
  intro cmd c s
  refine ⟨?empty, ?unknown, ?keyShort, ?key, ?broadcastShort, ?broadcast⟩
  case empty =>
    rintro rfl
    exact ⟨rfl, exec_decode_incomplete cmd s rfl⟩
  case unknown =>
    rintro b0 rest rfl hkey hbroadcast
    have hd := decodeChunk_unknown b0 rest (shapeOf_other b0 hkey hbroadcast)
    exact ⟨hd, exec_decode_unrecognized cmd s hd⟩
  case keyShort =>
    rintro rest rfl hlen
    have hd : decodeChunk (0x3F#8 :: rest) = .incomplete :=
      decodeChunk_code_short .keyStatus (Nat.lt_of_succ_lt_succ hlen)
    exact ⟨hd, exec_decode_incomplete cmd s hd⟩
  case key =>
    rintro len b rest rfl
    have hd : decodeChunk (0x3F#8 :: len :: b :: rest) = .frame ⟨0x3F#8, 1#8, [b], 0#16⟩ :=
      decodeChunk_code_payload .keyStatus len (p := [b]) rest rfl
    exact ⟨hd, exec_decode_frame cmd (n := 1) s hd rfl⟩
  case broadcastShort =>
    rintro rest rfl hlen
    have hd : decodeChunk (0x41#8 :: rest) = .incomplete :=
      decodeChunk_code_short .broadcast (Nat.lt_of_succ_lt_succ hlen)
    exact ⟨hd, exec_decode_incomplete cmd s hd⟩
  case broadcast =>
    rintro len p rest rfl hp
    have hd : decodeChunk (0x41#8 :: len :: (p ++ rest)) = .frame ⟨0x41#8, 16#8, p, 0#16⟩ :=
      decodeChunk_code_payload .broadcast len rest hp
    exact ⟨hd, exec_decode_frame cmd s hd hp⟩

/-! ## VALIDATE (R103) -/

/-- VALIDATE's header, but for the verdict in its crc field. -/
theorem exec_validate_of_verdict (cmd : Byte) {c : List Byte} {v : CrcStatus} (s : State)
    (h : validateChunk Config.checksum16 c = v) :
    exec (.validate cmd c) s =
      .next { s with response := some { header := 0#16 ++ 0#6 ++ v.code ++ 0x00#8, data := [] } } := by
  rw [exec_validate, validateResponse, h]
  rfl

/-- Settles O11: the clauses are those of `validateChunk`, and the verdict fixes the response. -/
theorem validateAnswers : Obligations.ValidateAnswers := by
  intro cmd c s
  refine ⟨?tiny, ?short, ?whole⟩
  case tiny => exact fun hlen => exec_validate_of_verdict cmd s (validateChunk_tiny _ c hlen)
  case short =>
    rintro c0 len rest rfl hlen
    exact exec_validate_of_verdict cmd s (validateChunk_short _ c0 len rest hlen)
  case whole =>
    rintro c0 len p k0 k1 rest rfl hp
    have hv := validateChunk_whole Config.checksum16 c0 len p [k0, k1] rest hp rfl
    have hbytes : [k0, k1] = checksumBytes (Config.checksum16 (c0 :: len :: p)) ↔
        k0 = (Config.checksum16 (c0 :: len :: p)).extractLsb' 0 8 ∧
          k1 = (Config.checksum16 (c0 :: len :: p)).extractLsb' 8 8 := by
      simp [checksumBytes, lo8, hi8]
    rw [List.append_assoc, List.cons_append, List.cons_append, List.nil_append] at hv
    constructor
    · intro hk
      rw [if_pos (hbytes.mpr hk)] at hv
      exact exec_validate_of_verdict cmd s hv
    · intro hk
      rw [if_neg (mt hbytes.mp hk)] at hv
      exact exec_validate_of_verdict cmd s hv

/-! ## DECODE of ENCODE (R105) -/

/-- What DECODE makes of ENCODE's output for a command that is a shape's code, when payload and checksum fill the
payload region: that many bytes of them, the checksum's among them where the payload is too short. -/
theorem decodeChunk_encodeFrame_long {ck : List Byte → Half} (sh : Shape) {p e : List Byte}
    (h : encodeFrame ck sh.code p = .ok e) (hlen : sh.payloadLen ≤ p.length + 2) :
    decodeChunk e = .frame ⟨sh.code, BitVec.ofNat 8 sh.payloadLen,
      (p ++ checksumBytes (ck (sh.code :: BitVec.ofNat 8 p.length :: p))).take sh.payloadLen, 0#16⟩ := by
  obtain ⟨-, rfl⟩ := eq_of_encodeFrame_eq_ok h
  exact decodeChunk_code_long sh _ (by simpa using hlen)

/-- A payload that fills the region by itself is decoded from its own bytes. -/
theorem decodeChunk_encodeFrame_take {ck : List Byte → Half} (sh : Shape) {p e : List Byte}
    (h : encodeFrame ck sh.code p = .ok e) (hlen : sh.payloadLen ≤ p.length) :
    decodeChunk e = .frame ⟨sh.code, BitVec.ofNat 8 sh.payloadLen, p.take sh.payloadLen, 0#16⟩ := by
  rw [decodeChunk_encodeFrame_long sh h (by omega), List.take_append_of_le_length hlen]

/-- A payload of the shape's own length is decoded exactly. -/
theorem decodeChunk_encodeFrame_exact {ck : List Byte → Half} (sh : Shape) {p e : List Byte}
    (h : encodeFrame ck sh.code p = .ok e) (hlen : p.length = sh.payloadLen) :
    decodeChunk e = .frame ⟨sh.code, BitVec.ofNat 8 sh.payloadLen, p, 0#16⟩ := by
  obtain ⟨-, rfl⟩ := eq_of_encodeFrame_eq_ok h
  exact decodeChunk_code_payload sh _ _ hlen

/-- Payload and checksum together do not fill the region. -/
theorem decodeChunk_encodeFrame_short {ck : List Byte → Half} (sh : Shape) {p e : List Byte}
    (h : encodeFrame ck sh.code p = .ok e) (hlen : p.length + 2 < sh.payloadLen) : decodeChunk e = .incomplete := by
  obtain ⟨-, rfl⟩ := eq_of_encodeFrame_eq_ok h
  apply decodeChunk_code_short
  simp only [List.length_cons, List.length_append, checksumBytes_length]
  omega

/-- A command that is no shape's code is not recognised. -/
theorem decodeChunk_encodeFrame_unknown {ck : List Byte → Half} {cmd : Byte} {p e : List Byte}
    (h : encodeFrame ck cmd p = .ok e) (hcmd : shapeOf cmd = none) : decodeChunk e = .unrecognized := by
  obtain ⟨-, rfl⟩ := eq_of_encodeFrame_eq_ok h
  exact decodeChunk_unknown cmd _ hcmd

/-- Settles O12: each row is one of the cases of payload length against the shape's payload region: exact, the
checksum's bytes taken in, truncated, or not filled. -/
theorem roundTripTable : Obligations.RoundTripTable := by
  intro ck cmd p e _ h
  refine ⟨?keyExact, ?keyEmpty, ?keyTruncated, ?broadcastExact, ?broadcastChecksum, ?broadcastShort,
    ?broadcastTruncated, ?unknown⟩
  case keyExact =>
    rintro rfl hlen
    exact decodeChunk_encodeFrame_exact .keyStatus h hlen
  case keyEmpty =>
    rintro rfl hlen
    obtain rfl := List.eq_nil_of_length_eq_zero hlen
    exact decodeChunk_encodeFrame_long .keyStatus h (by decide)
  case keyTruncated =>
    rintro b q rfl rfl _
    exact decodeChunk_encodeFrame_take .keyStatus h (Nat.le_add_left 1 q.length)
  case broadcastExact =>
    rintro rfl hlen
    exact decodeChunk_encodeFrame_exact .broadcast h hlen
  case broadcastChecksum =>
    rintro rfl hlen
    exact decodeChunk_encodeFrame_long .broadcast h (by simp only [Shape.payloadLen]; omega)
  case broadcastShort =>
    rintro rfl hlen
    exact decodeChunk_encodeFrame_short .broadcast h (by simp only [Shape.payloadLen]; omega)
  case broadcastTruncated =>
    rintro rfl hlen
    exact decodeChunk_encodeFrame_take .broadcast h (by simp only [Shape.payloadLen]; omega)
  case unknown =>
    exact fun hkey hbroadcast => decodeChunk_encodeFrame_unknown h (shapeOf_other cmd hkey hbroadcast)

/-! ## Appending to a chunk (R107) -/

/-- A payload region that is all there is not changed by what follows it. -/
theorem extractShape_append {sh : Shape} {c : List Byte} (t : List Byte) (h : extractShape sh c ≠ .incomplete) :
    extractShape sh (c ++ t) = extractShape sh c := by
  have hlen : 2 + sh.payloadLen ≤ c.length := by
    by_contra hshort
    exact h (extractShape_short sh c (by omega))
  rw [extractShape_long sh c hlen, extractShape_long sh (c ++ t) (by simp only [List.length_append]; omega),
    memRead_append c t 2 sh.payloadLen hlen]

/-- Of DECODE's verdicts, appending changes INCOMPLETE alone. -/
theorem decodeChunk_append {c : List Byte} (t : List Byte) (h : decodeChunk c ≠ .incomplete) :
    decodeChunk (c ++ t) = decodeChunk c := by
  obtain ⟨-, hd⟩ | ⟨b0, rest, sh, rfl, hb0, hd⟩ | ⟨b0, rest, rfl, hb0, hd⟩ := decodeChunk_cases c
  · exact absurd hd h
  · rw [hd] at h ⊢
    calc decodeChunk (b0 :: rest ++ t)
      _ = extractShape sh (b0 :: rest ++ t) := decodeChunk_cons b0 (rest ++ t) sh hb0
      _ = extractShape sh (b0 :: rest) := extractShape_append t h
  · rw [hd]
    exact decodeChunk_unknown b0 (rest ++ t) hb0

/-- A verdict of VALIDATE other than SHORT is on a whole frame: header, payload and two bytes, then anything. -/
theorem exists_wholeFrame_of_validateChunk_ne_short {ck : List Byte → Half} {c : List Byte}
    (h : validateChunk ck c ≠ .short) :
    ∃ c0 len p k rest, c = c0 :: len :: (p ++ k ++ rest) ∧ p.length = len.toNat ∧ k.length = 2 := by
  match c with
  | [] | [_] => exact absurd (validateChunk_tiny ck _ (by simp)) h
  | c0 :: len :: body =>
    have hlen : len.toNat + 2 ≤ body.length := by
      by_contra hshort
      exact h (validateChunk_short ck c0 len body (by simp only [List.length_cons]; omega))
    refine ⟨c0, len, body.take len.toNat, (body.drop len.toNat).take 2, (body.drop len.toNat).drop 2, ?_, ?_, ?_⟩
    · simp [List.append_assoc]
    · simp only [List.length_take]; omega
    · simp only [List.length_take, List.length_drop]; omega

/-- Of VALIDATE's verdicts, appending changes SHORT alone. -/
theorem validateChunk_append {ck : List Byte → Half} {c : List Byte} (t : List Byte)
    (h : validateChunk ck c ≠ .short) : validateChunk ck (c ++ t) = validateChunk ck c := by
  obtain ⟨c0, len, p, k, rest, rfl, hp, hk⟩ := exists_wholeFrame_of_validateChunk_ne_short h
  rw [validateChunk_whole ck c0 len p k rest hp hk, ← validateChunk_whole ck c0 len p k (rest ++ t) hp hk]
  simp [List.append_assoc]

/-- Settles O14: each of the four verdicts is neither INCOMPLETE nor SHORT. -/
theorem verdictsSurviveAppending : Obligations.VerdictsSurviveAppending := by
  intro ck c t
  refine ⟨fun f hd => ?_, fun hd => ?_, fun hv => ?_, fun hv => ?_⟩
  · rw [decodeChunk_append t (by simp [hd]), hd]
  · rw [decodeChunk_append t (by simp [hd]), hd]
  · rw [validateChunk_append t (by simp [hv]), hv]
  · rw [validateChunk_append t (by simp [hv]), hv]

end Sys2Proof.Machine
end

section
/-! The family 41_scanner.md: what the scanner's step does in each state (R143 to R157), START and CANCEL by ST (R141,
R142), the flush policy (R154), S_EXITED (R158), and the transition summary (R160). -/

namespace Sys2Proof.Machine

/-! ## The scanner's step, by ST (R140) -/

section ByState

variable {s : State} {tx : TxDraw} (hn : s.nextTurn = .scanner tx)
include hn

theorem step_poll (hst : s.st = .poll) : step s = .next (pollStep tx s.begin) := by
  simp [step_scanner hn, scannerStep, hst]

theorem step_idleWait (hst : s.st = .idleWait) : step s = .next (idleWaitStep s.begin) := by
  simp [step_scanner hn, scannerStep, hst]

theorem step_settle (hst : s.st = .settle) : step s = .next (settleStep s.begin) := by
  simp [step_scanner hn, scannerStep, hst]

theorem step_drain (hst : s.st = .drain) : step s = .next (drainStep tx s.begin) := by
  simp [step_scanner hn, scannerStep, hst]

theorem step_classify (hst : s.st = .classify) : step s = .next (recordVerdict (decodeChunk s.chunk) s.begin) := by
  simp [step_scanner hn, scannerStep, hst, classifyStep_eq]

theorem step_flush (hst : s.st = .flush) : step s = flushStep tx s.begin := by
  simp [step_scanner hn, scannerStep, hst]

theorem step_dispatch (hst : s.st = .dispatch) : step s = dispatchStep s.begin := by
  simp [step_scanner hn, scannerStep, hst]

theorem step_fault (hst : s.st = .fault) : step s = .next (faultStep s.begin) := by
  simp [step_scanner hn, scannerStep, hst]

theorem step_exited (hst : s.st = .exited) : step s = .next s.begin := by
  simp [step_scanner hn, scannerStep, hst]

end ByState

/-! ## S_POLL (R144 to R147) -/

theorem pollStep_closed {s : State} (tx : TxDraw) (ho : s.txOpen = false) : pollStep tx s = exitLoop .closed s := by
  simp [pollStep, ho]

theorem pollStep_err {s : State} (left : List Byte) (ho : s.txOpen = true) :
    pollStep (.err left) s = raiseTransportFault .query { s with rxbuf := left } := by
  simp [pollStep, ho, txBytesAvailable]

theorem pollStep_none {s : State} (ho : s.txOpen = true) (hb : s.rxbuf.length = 0) :
    pollStep .ok s = { s with st := .idleWait, idleTimer := .running } := by
  simp [pollStep, ho, txBytesAvailable, hb]

theorem pollStep_some {s : State} (ho : s.txOpen = true) (hb : 0 < s.rxbuf.length) :
    pollStep .ok s = { s with st := .settle, settleTimer := .running } := by
  obtain ⟨n, hlen⟩ := Nat.exists_eq_add_one.mpr hb
  simp [pollStep, ho, txBytesAvailable, hlen]

/-- Settles O27 (`pollStep` is the model's function): the four branches of `pollStep`, by the open flag, the draw and
the number of bytes. -/
theorem scannerPollStep : Obligations.PollStep := by
  intro s tx hn hst
  rw [step_poll hn hst]
  refine ⟨fun ho => ?closed, fun ho => ⟨?err, ?none, ?some⟩⟩
  case closed => rw [pollStep_closed tx (by simpa using ho), exitLoop]
  case err =>
    rintro left rfl
    rw [pollStep_err left (by simpa using ho)]
    rfl
  case none =>
    rintro rfl hb
    rw [pollStep_none (by simpa using ho) (by simpa using hb)]
  case some =>
    rintro rfl hb
    rw [pollStep_some (by simpa using ho) (by simpa using hb)]

/-! ## S_IDLE_WAIT and S_SETTLE (R148, R149) -/

theorem idleWaitStep_expired {s : State} (ht : s.idleTimer = .expired) :
    idleWaitStep s = { s with st := .poll, idleTimer := .stopped } := by
  simp [idleWaitStep, ht]

theorem settleStep_expired {s : State} (ht : s.settleTimer = .expired) :
    settleStep s = { s with st := .drain, settleTimer := .stopped } := by
  simp [settleStep, ht]

/-! ## S_DRAIN (R150 to R152) -/

theorem drainStep_err (s : State) (left : List Byte) :
    drainStep (.err left) s = raiseTransportFault .drain { s with rxbuf := left } := rfl

/-- An empty read leaves RXBUF as it was. -/
theorem drainStep_empty {s : State} (hb : s.rxbuf = []) : drainStep .ok s = exitLoop .emptyDrain s := by
  have hkept : { s with rxbuf := [] } = s := by rw [← hb]
  simp [drainStep, txReadAvailable, hb, hkept]

theorem drainStep_bytes {s : State} (hb : s.rxbuf ≠ []) :
    drainStep .ok s = { s with rxbuf := [], chunk := capChunk s.params s.rxbuf, st := .classify } := by
  obtain ⟨b, bs, hcons⟩ := List.exists_cons_of_ne_nil hb
  simp [drainStep, txReadAvailable, hcons]

/-- Settles O29: the three branches of `drainStep`, and `capChunk` without and with a capacity. -/
theorem scannerDrainStep : Obligations.DrainStep := by
  intro s tx hn hst
  rw [step_drain hn hst]
  refine ⟨?err, ?empty, ?unbounded, ?capped⟩
  case err =>
    rintro left rfl
    rw [drainStep_err]
    rfl
  case empty =>
    rintro rfl hb
    rw [drainStep_empty (by simpa using hb), exitLoop]
  case unbounded =>
    rintro rfl hb hcap
    simp [drainStep_bytes (s := s.begin) (by simpa using hb), capChunk, hcap]
  case capped =>
    rintro n rfl hb hcap
    simp [drainStep_bytes (s := s.begin) (by simpa using hb), capChunk, hcap]

/-! ## S_CLASSIFY (R153, R154) -/

/-- Settles O31: the policy reads one parameter for each verdict that is no frame. -/
theorem flushPolicy : Obligations.FlushPolicy :=
  ⟨fun _ _ => rfl, fun _ => rfl, fun _ => rfl, rfl, rfl⟩

/-- Settles O30: `recordVerdict` flushes or drops; a verdict that is not flushed is no frame, so the branch to
S_DISPATCH is not among them. -/
theorem scannerClassifyStep : Obligations.ClassifyStep := by
  intro s tx hn hst
  rw [step_classify hn hst]
  refine ⟨fun hflush => ?flush, fun f hf => ?frame, fun hdrop => ?drop⟩
  case flush =>
    simp [recordVerdict_flush (decodeChunk s.chunk) s.begin (by simpa using hflush)]
  case frame =>
    rw [hf]
    exact flushPolicy.1 s.params f
  case drop =>
    rw [recordVerdict_drop _ _ (by simpa using hdrop), dropChunk]

/-! ## S_FLUSH (R155), S_DISPATCH (R156) and S_FAULT (R197) -/

theorem offersMalformedFrame_of_wf {s : State} {f : Frame} (hr : s.res = some (.frame f)) (hf : f.wf = true) :
    s.offersMalformedFrame = false := by
  simp [State.offersMalformedFrame, hr, hf]

theorem offersMalformedFrame_of_no_frame {s : State} (hr : ∀ f, s.res ≠ some (.frame f)) :
    s.offersMalformedFrame = false := by
  cases hres : s.res with
  | none => simp [State.offersMalformedFrame, hres]
  | some v =>
    cases v with
    | frame f => exact absurd hres (hr f)
    | _ => simp [State.offersMalformedFrame, hres]

theorem flushStep_err (s : State) (left : List Byte) :
    flushStep (.err left) s = .next (raiseTransportFault .flush { s with rxbuf := left }) := rfl

theorem flushStep_frame {s : State} {f : Frame} (hr : s.res = some (.frame f)) (hf : f.wf = true) :
    flushStep .ok s = .next { s with rxbuf := [], st := .dispatch } := by
  simp [flushStep, txReadAvailable, hr, offersMalformedFrame_of_wf (f := f), hf]

theorem flushStep_drop {s : State} (hr : ∀ f, s.res ≠ some (.frame f)) :
    flushStep .ok s = .next { dropChunk { s with rxbuf := [] } with st := .poll } := by
  cases hres : s.res with
  | none => simp [flushStep, txReadAvailable, State.offersMalformedFrame, hres]
  | some v =>
    cases v with
    | frame f => exact absurd hres (hr f)
    | _ => simp [flushStep, txReadAvailable, State.offersMalformedFrame, hres]

theorem dispatchStep_done {s : State} (hoffer : s.offersMalformedFrame = false) (hd : s.dispatchDone = true) :
    dispatchStep s = .next { dropChunk s with st := .poll, dispatchDone := false } := by
  simp [dispatchStep, hoffer, hd]

theorem faultStep_done {s : State} (hd : s.reconnectDone = true) : faultStep s = faultReturn s := by
  simp [faultStep, hd]

/-! ## START and CANCEL, by ST (R141, R142) -/

theorem execStart_reset (cmd : Byte) {s : State} (hst : s.st = .reset) :
    exec (.start cmd) s = .next (respond (Response.bare .ok) { s with st := .poll }) := by
  simp [exec, execStart, hst]

theorem execStart_ignored (cmd : Byte) {s : State} (hst : s.st ≠ .reset) (hnamed : ∀ k, s.st ≠ .unused k) :
    exec (.start cmd) s = .next (respond (Response.bare .ignored) s) := by
  cases hcase : s.st with
  | reset => exact absurd hcase hst
  | unused k => exact absurd hcase (hnamed k)
  | _ => simp [exec, execStart, hcase]

theorem execCancel_exited (cmd : Byte) {s : State} (hst : s.st = .exited) :
    exec (.cancel cmd) s = .next (respond (Response.bare .ignored) s) := by
  simp [exec, execCancel, hst]

theorem execCancel_tearDown (cmd : Byte) {s : State} (hst : s.st ≠ .exited) (hnamed : ∀ k, s.st ≠ .unused k) :
    exec (.cancel cmd) s = .next (respond (Response.bare .ok) (tearDown s)) := by
  cases hcase : s.st with
  | exited => exact absurd hcase hst
  | unused k => exact absurd hcase (hnamed k)
  | _ => simp [exec, execCancel, hcase]

/-- Settles O17: the two answers of START on a named ST, each with the header of its bare response. -/
theorem startAnswers : Obligations.StartAnswers :=
  fun cmd _ => ⟨execStart_reset cmd, execStart_ignored cmd⟩

theorem step_request {s : State} {h : HeaderWord} {data : List Byte} {i : Instr} (hn : s.nextTurn = .caller h data)
    (hi : decode (.request h data) = .ok i) : step s = exec i s.begin := by
  rw [step_caller hn, runEncoded_ok _ hi]

theorem step_ownerResets {s : State} (hn : s.nextTurn = .ownerResets) : step s = .next (applyReset s.begin) := by
  simp [step, hn, runTurn]

/-! ## What the invariant gives the transitions -/

theorem decodeChunk_frame_wf {c : List Byte} {f : Frame} (h : decodeChunk c = .frame f) : f.wf = true := by
  obtain ⟨sh, hlen, rfl⟩ := decodeChunk_eq_frame h
  have hbyte : sh.payloadLen < 256 := by have := payloadLen_le sh; omega
  simp [Frame.wf, memRead_length c 2 sh.payloadLen hlen, Nat.mod_eq_of_lt hbyte]

theorem State.Inv.st_ne_unused {s : State} (hi : s.Inv) (k : Fin 6) : s.st ≠ .unused k := by
  intro hst
  simpa [State.ChunkHeld, hst] using hi.chunkHeld

/-- RES is NONE or DECODE's verdict on CHUNK (R24). -/
theorem State.Inv.res_eq {s : State} (hi : s.Inv) : s.res = none ∨ s.res = some (decodeChunk s.chunk) := by
  have hheld := hi.chunkHeld
  unfold State.ChunkHeld at hheld
  split at hheld
  case h_1 =>
    obtain ⟨-, hres, -⟩ := hheld
    exact .inl hres
  case h_2 =>
    obtain ⟨-, hres, -⟩ := hheld
    exact .inr hres
  case h_3 =>
    obtain ⟨-, -, hres, -⟩ := hheld
    exact .inr hres
  case h_4 => exact hheld.elim
  case h_5 =>
    obtain ⟨-, hres, -⟩ := hheld
    exact .inl hres

theorem State.Inv.frame_wf {s : State} (hi : s.Inv) {f : Frame} (hr : s.res = some (.frame f)) : f.wf = true := by
  obtain hnone | hsome := hi.res_eq
  · simp [hnone] at hr
  · exact decodeChunk_frame_wf (by simpa [hsome] using hr)

/-- FRAME_OUT is offered no Frame record that is not well formed (I11). -/
theorem State.Inv.offersMalformedFrame_eq_false {s : State} (hi : s.Inv) : s.offersMalformedFrame = false := by
  by_cases hframe : ∃ f, s.res = some (.frame f)
  · obtain ⟨f, hr⟩ := hframe
    exact offersMalformedFrame_of_wf hr (hi.frame_wf hr)
  · exact offersMalformedFrame_of_no_frame (not_exists.mp hframe)

/-! ## The transition summary (R160) -/

/-- Each row's condition makes the step and its ST: one case a row, by the equation of that branch of the model. -/
theorem step_of_transitionRow {s : State} {q : ScanState} (hi : s.Inv) (hrow : TransitionRow s q) :
    ∃ t, step s = .next t ∧ t.st = q := by
  cases hrow with
  | start hst hstart =>
    obtain ⟨h, data, cmd, hn, hd⟩ := hstart
    exact ⟨_, by rw [step_request hn hd, execStart_reset cmd (by simpa using hst)], rfl⟩
  | cancel hst hcancel =>
    obtain ⟨h, data, cmd, hn, hd⟩ := hcancel
    have hnamed : ∀ k, s.begin.st ≠ .unused k := by simpa using hi.st_ne_unused
    exact ⟨_, by rw [step_request hn hd, execCancel_tearDown cmd (by simpa using hst) hnamed], rfl⟩
  | pollClosed hst hs ho =>
    obtain ⟨tx, hn⟩ := hs
    exact ⟨_, by rw [step_poll hn hst, pollStep_closed tx (by simpa using ho)], rfl⟩
  | pollErr hst hs ho =>
    obtain ⟨left, hn⟩ := hs
    exact ⟨_, by rw [step_poll hn hst, pollStep_err left (by simpa using ho)], rfl⟩
  | pollNone hst hn ho hb =>
    exact ⟨_, by rw [step_poll hn hst, pollStep_none (by simpa using ho) (by simpa using hb)], rfl⟩
  | pollSome hst hn ho hb =>
    exact ⟨_, by rw [step_poll hn hst, pollStep_some (by simpa using ho) (by simpa using hb)], rfl⟩
  | idleExpired hst hs ht =>
    obtain ⟨tx, hn⟩ := hs
    exact ⟨_, by rw [step_idleWait hn hst, idleWaitStep_expired (by simpa using ht)], rfl⟩
  | settleExpired hst hs ht =>
    obtain ⟨tx, hn⟩ := hs
    exact ⟨_, by rw [step_settle hn hst, settleStep_expired (by simpa using ht)], rfl⟩
  | drainErr hst hs =>
    obtain ⟨left, hn⟩ := hs
    exact ⟨_, by rw [step_drain hn hst, drainStep_err], rfl⟩
  | drainEmpty hst hn hb => exact ⟨_, by rw [step_drain hn hst, drainStep_empty (by simpa using hb)], rfl⟩
  | drainBytes hst hn hb => exact ⟨_, by rw [step_drain hn hst, drainStep_bytes (by simpa using hb)], rfl⟩
  | classifyFlush hst hs hflush =>
    obtain ⟨tx, hn⟩ := hs
    exact ⟨_, by rw [step_classify hn hst, recordVerdict_flush _ _ (by simpa using hflush)], rfl⟩
  | classifyFrame f hst hs hf hdrop => exact absurd hf (not_frame_of_not_flushed hdrop f)
  | classifyDrop hst hs hf hdrop =>
    obtain ⟨tx, hn⟩ := hs
    exact ⟨_, by rw [step_classify hn hst, recordVerdict_drop _ _ (by simpa using hdrop)], rfl⟩
  | flushErr hst hs =>
    obtain ⟨left, hn⟩ := hs
    exact ⟨_, by rw [step_flush hn hst, flushStep_err], rfl⟩
  | flushFrame f hst hn hr =>
    exact ⟨_, by rw [step_flush hn hst, flushStep_frame (f := f) (by simpa using hr) (hi.frame_wf hr)], rfl⟩
  | flushDrop hst hn hr => exact ⟨_, by rw [step_flush hn hst, flushStep_drop (by simpa using hr)], rfl⟩
  | dispatchDone hst hs hd =>
    obtain ⟨tx, hn⟩ := hs
    have hoffer : s.begin.offersMalformedFrame = false := by simpa using hi.offersMalformedFrame_eq_false
    exact ⟨_, by rw [step_dispatch hn hst, dispatchStep_done hoffer (by simpa using hd)], rfl⟩
  | reconnectDone hst hs hd =>
    obtain ⟨tx, hn⟩ := hs
    exact ⟨_, by rw [step_fault hn hst, faultStep_done (by simpa using hd)], rfl⟩
  | ownerReset hn => exact ⟨_, step_ownerResets hn, rfl⟩

/-- A scanner's step that changes ST is a row: each move but the waiting one has its row's condition. -/
theorem transitionRow_of_scannerMove {tx : TxDraw} {s t : State} (hn : s.nextTurn = .scanner tx)
    (hm : ScannerMove tx s.begin t) (hne : t.st ≠ s.st) : TransitionRow s t.st := by
  have hs : s.ScannerNext := ⟨tx, hn⟩
  have hok : tx = .ok → s.ScannerOk := by
    rintro rfl
    exact hn
  have herr : ∀ left, tx = .err left → s.ScannerErr := by
    rintro left rfl
    exact ⟨left, hn⟩
  cases hm with
  | wait => exact absurd (begin_st s) hne
  | pollClosed hst ho => exact .pollClosed (by simpa using hst) hs (by simpa using ho)
  | pollErr left hst ho htx => exact .pollErr (by simpa using hst) (herr left htx) (by simpa using ho)
  | pollNone hst ho htx hb =>
    exact .pollNone (by simpa using hst) (hok htx) (by simpa using ho) (by simpa using hb)
  | pollSome hst ho htx hb =>
    exact .pollSome (by simpa using hst) (hok htx) (by simpa using ho) (by simpa [List.length_pos_iff] using hb)
  | idleExpired hst ht => exact .idleExpired (by simpa using hst) hs (by simpa using ht)
  | settleExpired hst ht => exact .settleExpired (by simpa using hst) hs (by simpa using ht)
  | drainErr left hst htx => exact .drainErr (by simpa using hst) (herr left htx)
  | drainEmpty hst htx hb => exact .drainEmpty (by simpa using hst) (hok htx) (by simpa using hb)
  | drainBytes hst htx hb => exact .drainBytes (by simpa using hst) (hok htx) (by simpa using hb)
  | classifyFlush hst hflush => exact .classifyFlush (by simpa using hst) hs (by simpa using hflush)
  | classifyDrop hst hdrop =>
    have hdrop' : needsFlush s.params (decodeChunk s.chunk) = false := by simpa using hdrop
    exact .classifyDrop (by simpa using hst) hs (not_frame_of_not_flushed hdrop') hdrop'
  | flushErr left hst htx => exact .flushErr (by simpa using hst) (herr left htx)
  | flushFrame f hst htx hr => exact .flushFrame f (by simpa using hst) (hok htx) (by simpa using hr)
  | flushDrop hst htx hr => exact .flushDrop (by simpa using hst) (hok htx) (by simpa using hr)
  | dispatchDone hst hd => exact .dispatchDone (by simpa using hst) hs (by simpa using hd)
  | reconnectDone hst hd => exact .reconnectDone (by simpa using hst) hs (by simpa using hd)

/-- A request that changes ST is START's row or CANCEL's. -/
theorem transitionRow_of_requestEffect {h : HeaderWord} {data : List Byte} {i : Instr} {s t : State}
    (hn : s.nextTurn = .caller h data) (hi : decode (.request h data) = .ok i) (he : RequestEffect i s.begin t)
    (hne : t.st ≠ s.st) : TransitionRow s t.st := by
  cases he with
  | answered r => exact absurd (by simp) hne
  | started cmd hstart hst => exact .start (by simpa using hst) ⟨h, data, cmd, hn, hstart ▸ hi⟩
  | cancelled cmd hcancel hst => exact .cancel (by simpa using hst) ⟨h, data, cmd, hn, hcancel ▸ hi⟩

/-- The summary is complete, in every state: a turn that is no request, no scanner's and no reset leaves ST. -/
theorem transitionRow_of_step {s t : State} (h : step s = .next t) (hne : t.st ≠ s.st) : TransitionRow s t.st := by
  cases step_move h with
  | request hd data i t hn hi he => exact transitionRow_of_requestEffect hn hi he hne
  | scanner tx t hn hm => exact transitionRow_of_scannerMove hn hm hne
  | reset hn => exact .ownerReset hn
  | _ => exact absurd (by simp) hne

/-- Settles O43: a row's condition makes its step, and the inversion lemma of a step gives each change of ST its row. -/
theorem transitionSummary : Obligations.TransitionSummary :=
  fun _ hi => ⟨fun _ => step_of_transitionRow hi, fun _ => transitionRow_of_step⟩

/-! ## S_EXITED (R158) -/

/-- Reset is the one row that leads out of S_EXITED. -/
theorem TransitionRow.ownerResets_of_exited {s : State} {q : ScanState} (hrow : TransitionRow s q)
    (hst : s.st = .exited) : s.nextTurn = .ownerResets := by
  cases hrow with
  | ownerReset hn => exact hn
  | _ => simp_all

theorem step_request_exited {s : State} (hst : s.st = .exited) (hreq : s.StartNext ∨ s.CancelNext) :
    step s = .next (respond (Response.bare .ignored) s.begin) := by
  obtain ⟨h, data, cmd, hn, hd⟩ | ⟨h, data, cmd, hn, hd⟩ := hreq
  · rw [step_request hn hd, execStart_ignored cmd (by simp [hst]) (by simp [hst])]
  · rw [step_request hn hd, execCancel_exited cmd (by simp [hst])]

/-- Settles O44: the invariant gives RECONNECT_REQ, and of the transition summary reset's row alone leaves S_EXITED. -/
theorem exitedIsAbsorbing : Obligations.ExitedIsAbsorbing := by
  intro s hi hst
  refine ⟨?frameOut, ?reconnectReq, ?scanner, step_request_exited hst, fun t hstep => ?leave⟩
  case frameOut => exact (frameOutValid_eq_false_iff s).mpr (by simp [hst])
  case reconnectReq => simpa [hst] using hi.reconnectLevel
  case scanner =>
    rintro ⟨tx, hn⟩
    exact step_exited hn hst
  case leave =>
    by_cases hsame : t.st = s.st
    · exact .inl (hsame.trans hst)
    · exact .inr ((transitionRow_of_step hstep hsame).ownerResets_of_exited hst)

end Sys2Proof.Machine
end

section
/-! The family 60_exceptions.md: the answer to an illegal request (R194), and the entry to a transport fault (R196). -/

namespace Sys2Proof.Machine

/-! ## BAD_OP (R194) -/

/-- The answer to an illegal request, its header written out (R82). -/
theorem badOp_eq (s : State) :
    badOp s = .next { s with response := some { header := 0x00000304#32, data := [] } } := rfl

/-- Settles O19: each of the four rows is run as `badOp`, whatever the request's other fields are. -/
theorem illegalRequestsAnswerBadOp : Obligations.IllegalRequestsAnswerBadOp :=
  fun _ _ _ _ s => ⟨badOp_eq s, badOp_eq s, badOp_eq s, badOp_eq s⟩

/-! ## Fault entry (R196) -/

/-- A failing transport call in S_POLL, S_DRAIN or S_FLUSH enters the fault with that state's cause; RXBUF holds what
the failing call left. -/
theorem step_transportFault {s : State} {left : List Byte} {cause : FaultCause}
    (hn : s.nextTurn = .scanner (.err left))
    (hcause : (s.st = .poll ∧ s.txOpen = true ∧ cause = .query) ∨ (s.st = .drain ∧ cause = .drain) ∨
      (s.st = .flush ∧ cause = .flush)) :
    step s = .next (raiseTransportFault cause { s.begin with rxbuf := left }) := by
  obtain ⟨hst, ho, rfl⟩ | ⟨hst, rfl⟩ | ⟨hst, rfl⟩ := hcause
  · rw [step_poll hn hst, pollStep_err left (by simpa using ho)]
  · rw [step_drain hn hst, drainStep_err]
  · rw [step_flush hn hst, flushStep_err]

/-- Settles O34: the three steps end in `raiseTransportFault`, whose field laws give the registers, and a step begins
without a response. -/
theorem transportFaultEntry : Obligations.TransportFaultEntry := by
  intro s left cause hn hcause
  exact ⟨_, step_transportFault hn hcause, by simp⟩

end Sys2Proof.Machine
end

section
/-! The family 70_reset_and_hazards.md: the loop ended by an empty drain (R230), and START with the transport closed
(R223). -/

namespace Sys2Proof.Machine

/-! ## The loop ended by an empty drain (R230) -/

/-- A step from S_EXITED short of a reset stays there, keeps FAULT_CAUSE and RECONNECT_REQ and raises no event (R158). -/
theorem step_exited_keeps {s t : State} (hst : s.st = .exited) (hreset : s.nextTurn ≠ .ownerResets)
    (h : step s = .next t) :
    t.st = .exited ∧ t.faultCause = s.faultCause ∧ t.reconnectReq = s.reconnectReq ∧ t.event = none := by
  cases step_move h with
  | request hd data i t hn hi he =>
    cases he with
    | answered r => simp [hst]
    | started cmd hstart hb => simp [hst] at hb
    | cancelled cmd hcancel hb => simp [hst] at hb
  | scanner tx t hn =>
    obtain rfl : s.begin = t := by simpa [step_exited hn hst] using h
    simp [hst]
  | reset hn => exact absurd hn hreset
  | _ => simp [hst]

/-- In `t` the loop has ended without a fault: ST is S_EXITED, FAULT_CAUSE and RECONNECT_REQ are what they were in `s`,
and no DISCONNECT is raised. -/
structure EndedSince (s t : State) : Prop where
  exited : t.st = .exited
  faultCause : t.faultCause = s.faultCause
  reconnectReq : t.reconnectReq = s.reconnectReq
  noDisconnect : ∀ c, t.event ≠ some (.disconnect c)

/-- An empty drain ends the loop without a fault (R151). -/
theorem step_emptyDrain_ended {s t : State} (hst : s.st = .drain) (hb : s.rxbuf = []) (hn : s.nextTurn = .scanner .ok)
    (h : step s = .next t) : EndedSince s t := by
  rw [step_drain hn hst, drainStep_empty (by simpa using hb)] at h
  cases h
  constructor <;> simp

theorem EndedSince.after_step {s u t : State} (he : EndedSince s u) (hreset : u.nextTurn ≠ .ownerResets)
    (h : step u = .next t) : EndedSince s t := by
  obtain ⟨hst, hcause, hreq, hev⟩ := step_exited_keeps he.exited hreset h
  exact ⟨hst, hcause.trans he.faultCause, hreq.trans he.reconnectReq, by simp [hev]⟩

/-- Induction on the listed turns: the run takes them one by one, and none of them is a reset. -/
theorem EndedSince.after_run {s u t : State} {ts : List Turn} {k : Nat} (he : EndedSince s u) (hts : u.turns = ts)
    (hreset : .ownerResets ∉ ts) (hk : k ≤ ts.length) (h : Host.Core.run Sys2Proof.core k u = .next t) :
    EndedSince s t := by
  induction ts generalizing u k with
  | nil =>
    obtain rfl : k = 0 := by simpa using hk
    cases h
    exact he
  | cons x xs ih =>
    cases k with
    | zero =>
      cases h
      exact he
    | succ k =>
      obtain ⟨hx, hxs⟩ := List.ne_and_not_mem_of_not_mem_cons hreset
      obtain ⟨v, hv, hrun⟩ := run_succ_inv h
      have hnext : u.nextTurn ≠ .ownerResets := by simpa [nextTurn_cons u x xs hts] using hx.symm
      exact ih (he.after_step hnext hv) (step_turns hts hv) hxs (by simpa using hk) hrun

theorem frameOut_eq_none {s : State} (hst : s.st ≠ .dispatch) : s.frameOut = none := by
  simp [State.frameOut, hst]

/-- Settles O45: the empty drain ends the loop, and `EndedSince` is kept by every step but a reset. -/
theorem emptyDrainEndsForGood : Obligations.EmptyDrainEndsForGood := by
  intro s t ts hst hb hts hreset k hk h
  obtain ⟨u, hu, hrun⟩ := run_succ_inv h
  have hdrain : EndedSince s u := step_emptyDrain_ended hst hb (nextTurn_cons s _ ts hts) hu
  have hend : EndedSince s t := hdrain.after_run (step_turns hts hu) hreset hk hrun
  exact ⟨hend.exited, frameOut_eq_none (by simp [hend.exited]), hend.faultCause, hend.reconnectReq, hend.noDisconnect⟩

/-! ## START with the transport closed (R223) -/

theorem decode_start : decode (.request 0x00000003#32 []) = .ok (.start 0#8) := rfl

/-- Settles O59: START enters S_POLL, whose first step exits since the transport is closed (R144), and the second START
finds S_EXITED. -/
theorem startBeforeOpenEndsTheLoop : Obligations.StartBeforeOpenEndsTheLoop := by
  intro s tx ts hst ho hts
  obtain ⟨p, hstart, hpst, hpo⟩ : ∃ p, step s = .next p ∧ p.st = .poll ∧ p.txOpen = false := by
    rw [step_request (nextTurn_cons s _ _ hts) decode_start, execStart_reset 0#8 (by simpa using hst)]
    exact ⟨_, rfl, by simp, by simpa using ho⟩
  have hpts := step_turns hts hstart
  have hpoll : step p = .next (exitLoop .closed p.begin) := by
    rw [step_poll (nextTurn_cons p _ _ hpts) hpst, pollStep_closed tx (by simpa using hpo)]
  have hagain : step (exitLoop .closed p.begin) =
      .next (respond (Response.bare .ignored) (exitLoop .closed p.begin).begin) :=
    step_request_exited (by simp) (.inl ⟨_, [], 0#8, nextTurn_cons _ _ _ (step_turns hpts hpoll), decode_start⟩)
  have hrun : Host.Core.run Sys2Proof.core 3 s =
      .next (respond (Response.bare .ignored) (exitLoop .closed p.begin).begin) := by
    rw [run_next 2 hstart, run_next 1 hpoll, run_next 0 hagain, run_zero]
  exact ⟨_, hrun, by simp, rfl⟩

end Sys2Proof.Machine
end

section
/-! The family other, encoding: the decoder and the encoder are inverse to each other (R78, R79, R83, R84, R76), the
opcode table's rows in order (R79, R83), words written out, and the codes of ST (R22, R37). -/

namespace Sys2Proof

/-! ## Requests -/

theorem ofNat16_length_toNat {data : List Byte} (h : dataFits data) :
    (BitVec.ofNat 16 data.length).toNat = data.length := by
  rw [BitVec.toNat_ofNat, Nat.mod_eq_of_lt (by omega)]

/-- A request that was put together from its fields is read back by the rows. -/
theorem decode_encodeRequest (op : BitVec 3) (rsv : BitVec 5) (cmd : Byte) {data : List Byte} (h : dataFits data) :
    decode (encodeRequest op rsv cmd data) = .ok (decodeRow op rsv cmd data) := by
  rw [encodeRequest, decode_request (by rw [hdrCount_packHeader, ofNat16_length_toNat h]), hdrOp_packHeader,
    hdrRsv_packHeader, hdrCmd_packHeader]

/-- The data of a request that is decoded can be counted by its header (R78). -/
theorem dataFits_of_length_eq_hdrCount {h : HeaderWord} {data : List Byte} (hl : data.length = (hdrCount h).toNat) :
    dataFits data := by
  have := (hdrCount h).isLt
  omega

/-- A request of the announced length is put together from its own fields. -/
theorem encodeRequest_fields {h : HeaderWord} {data : List Byte} (hl : data.length = (hdrCount h).toNat) :
    encodeRequest (hdrOp h) (hdrRsv h) (hdrCmd h) data = .request h data := by
  rw [encodeRequest, hl, BitVec.ofNat_toNat, BitVec.setWidth_eq, packHeader_fields]

theorem op_cases : ∀ op : BitVec 3,
    op = 0#3 ∨ op = 1#3 ∨ op = 2#3 ∨ op = 3#3 ∨ op = 4#3 ∨ op = 5#3 ∨ op = 6#3 ∨ op = 7#3 := by
  decide

theorem op_eq_four_of_ne {op : BitVec 3} (h0 : op ≠ 0#3) (h1 : op ≠ 1#3) (h2 : op ≠ 2#3) (h3 : op ≠ 3#3)
    (h5 : op ≠ 5#3) (h6 : op ≠ 6#3) (h7 : op ≠ 7#3) : op = 4#3 := by
  simpa [h0, h1, h2, h3, h5, h6, h7] using op_cases op

/-- The ops that are not reserved are 0 to 4 (R79). -/
theorem op_lt_five_of_ne {op : BitVec 3} (h5 : op ≠ 5#3) (h6 : op ≠ 6#3) (h7 : op ≠ 7#3) : op.toNat < 5 := by
  revert op
  decide

/-- The row that reads a request is a well-formed instruction with the request's own fields: one case for each row of
`decodeRow`. -/
theorem decodeRow_wellFormed_and_encode (op : BitVec 3) (rsv : BitVec 5) (cmd : Byte) {data : List Byte}
    (hfit : dataFits data) :
    (decodeRow op rsv cmd data).wellFormed = true ∧
      encode (decodeRow op rsv cmd data) = encodeRequest op rsv cmd data := by
  unfold decodeRow
  split_ifs with h5 h6 h7 hrsv h0 h1 h2 hdata h3
  case pos => simp [Instr.wellFormed, hfit, encode, h5]
  case pos => simp [Instr.wellFormed, hfit, encode, h6]
  case pos => simp [Instr.wellFormed, hfit, encode, h7]
  case pos => simp [Instr.wellFormed, hfit, encode, op_lt_five_of_ne h5 h6 h7, illegalReason, hrsv]
  all_goals obtain rfl := not_not.mp hrsv
  case pos => simp [Instr.wellFormed, hfit, encode, h0]
  case pos => simp [Instr.wellFormed, hfit, encode, h1]
  case pos => simp [Instr.wellFormed, hfit, encode, h2]
  case pos =>
    have h34 : op = 3#3 ∨ op = 4#3 := or_iff_not_imp_left.mpr (op_eq_four_of_ne h0 h1 h2 · h5 h6 h7)
    simp [Instr.wellFormed, hfit, encode, op_lt_five_of_ne h5 h6 h7, illegalReason, h34, hdata]
  case pos =>
    obtain rfl := not_not.mp hdata
    simp [Instr.wellFormed, encode, h3]
  case neg =>
    obtain rfl := not_not.mp hdata
    simp [Instr.wellFormed, encode, op_eq_four_of_ne h0 h1 h2 h3 h5 h6 h7]

/-! ## Byte 0 -/

theorem shapeOf_eq_none {b0 : Byte} (h : shapeOf b0 = none) : b0 ≠ 0x3F#8 ∧ b0 ≠ 0x41#8 := by
  constructor <;> rintro rfl <;> simp at h

/-- The row of byte 0 is a well-formed instruction, and is encoded as that byte. -/
theorem decodeShape_wellFormed_and_encode (b0 : Byte) :
    (decodeShape b0).wellFormed = true ∧ encode (decodeShape b0) = .byte0 b0 := by
  unfold decodeShape
  split
  case h_1 h => exact ⟨rfl, by rw [shapeOf_eq_some h]; rfl⟩
  case h_2 h => exact ⟨rfl, by rw [shapeOf_eq_some h]; rfl⟩
  case h_3 h => exact ⟨by simpa [Instr.wellFormed] using shapeOf_eq_none h, rfl⟩

/-! ## Both ways round -/

/-- Settles O1: a request is read by its row through `decode_encodeRequest`, whose side condition is the count of
well-formedness, and byte 0 by the shape it selects. -/
theorem decodeOfEncode : Obligations.DecodeOfEncode := by
  intro i hwf
  cases i with
  | encode cmd data | decode cmd data | validate cmd data =>
    rw [encode, decode_encodeRequest _ _ _ (by simpa [Instr.wellFormed] using hwf)]
    simp [decodeRow]
  | reservedOp5 rsv cmd data | reservedOp6 rsv cmd data | reservedOp7 rsv cmd data =>
    rw [encode, decode_encodeRequest _ _ _ (by simpa [Instr.wellFormed] using hwf)]
    simp [decodeRow]
  | start cmd | cancel cmd =>
    rw [encode, decode_encodeRequest _ _ _ (by simp)]
    simp [decodeRow]
  | illegalRequest op rsv cmd data =>
    obtain ⟨hop, hreason, hfit⟩ : op.toNat < 5 ∧ illegalReason op rsv data ∧ dataFits data := by
      simpa [Instr.wellFormed] using hwf
    have hne (k : BitVec 3) (hk : 5 ≤ k.toNat) : op ≠ k := by
      rintro rfl
      omega
    rw [encode, decode_encodeRequest op rsv cmd hfit, Machine.decodeRow_illegalRequest cmd (hne 5#3 (by decide))
      (hne 6#3 (by decide)) (hne 7#3 (by decide)) hreason]
  | keyStatusShape | broadcastShape => rfl
  | unrecognized b0 =>
    obtain ⟨hkey, hbroadcast⟩ : b0 ≠ 0x3F#8 ∧ b0 ≠ 0x41#8 := by simpa [Instr.wellFormed] using hwf
    simp [encode, decode, decodeShape, shapeOf_other b0 hkey hbroadcast]

/-- Settles O2: the row that reads a request keeps all its fields, and `packHeader_fields` gives its header back. -/
theorem encodeOfDecode : Obligations.EncodeOfDecode := by
  intro w i hd
  cases w with
  | request h data =>
    obtain ⟨hl, rfl⟩ := decode_request_ok hd
    rw [← encodeRequest_fields hl]
    exact decodeRow_wellFormed_and_encode _ _ _ (dataFits_of_length_eq_hdrCount hl)
  | byte0 b0 =>
    obtain rfl : decodeShape b0 = i := Except.ok.inj hd
    exact decodeShape_wellFormed_and_encode b0

/-! ## The opcode table -/

/-- Data of the announced length are empty when the header announces none. -/
theorem hdrCount_eq_zero_iff {h : HeaderWord} {data : List Byte} (hl : data.length = (hdrCount h).toNat) :
    hdrCount h = 0#16 ↔ data = [] := by
  rw [← List.length_eq_zero_iff, hl, ← BitVec.toNat_inj]
  rfl

/-- Settles O3: each mask keeps header fields (`and_row_mask`, `and_count_mask`, `and_op_mask`), and on the fields the
table's order and that of `decodeRow` choose the same row. -/
theorem requestsDecodeByFirstTableRow : Obligations.RequestsDecodeByFirstTableRow := by
  intro h data hl
  have hencode : h &&& 0x000000FF#32 = 0x00000000#32 ↔ _ := and_row_mask h 0#3
  have hdecode : h &&& 0x000000FF#32 = 0x00000001#32 ↔ _ := and_row_mask h 1#3
  have hvalidate : h &&& 0x000000FF#32 = 0x00000002#32 ↔ _ := and_row_mask h 2#3
  have hstart : h &&& 0xFFFF00FF#32 = 0x00000003#32 ↔ _ := and_count_mask h 3#3
  have hcancel : h &&& 0xFFFF00FF#32 = 0x00000004#32 ↔ _ := and_count_mask h 4#3
  have h5 : h &&& 0x00000007#32 = 0x00000005#32 ↔ _ := and_op_mask h 5#3
  have h6 : h &&& 0x00000007#32 = 0x00000006#32 ↔ _ := and_op_mask h 6#3
  have h7 : h &&& 0x00000007#32 = 0x00000007#32 ↔ _ := and_op_mask h 7#3
  simp only [decode_request hl, hencode, hdecode, hvalidate, hstart, hcancel, h5, h6, h7, hdrCount_eq_zero_iff hl]
  congr 1
  generalize hdrOp h = op
  generalize hdrRsv h = rsv
  by_cases hrsv : rsv = 0#5
  · by_cases hdata : data = []
    -- every op has its own row
    · obtain rfl | rfl | rfl | rfl | rfl | rfl | rfl | rfl := op_cases op <;> simp [decodeRow, hrsv, hdata]
    -- START and CANCEL with data fall through to the last row
    · obtain rfl | rfl | rfl | rfl | rfl | rfl | rfl | rfl := op_cases op <;> simp [decodeRow, hrsv, hdata]
  -- only the reserved ops' rows do not look at rsv
  · obtain rfl | rfl | rfl | rfl | rfl | rfl | rfl | rfl := op_cases op <;> simp [decodeRow, hrsv]

/-- Settles O4: the data have the announced lengths, and each word is read by its row. -/
theorem sampleWordsDecode : Obligations.SampleWordsDecode :=
  ⟨rfl, rfl, rfl, rfl, rfl, rfl, rfl, rfl, rfl, rfl, rfl⟩

end Sys2Proof

namespace Sys2Proof.Machine

/-- The unused values of ST follow the named ones, at 0xA to 0xF (R37). -/
theorem unused_code_toNat (k : Fin 6) : (ScanState.unused k).code.toNat = 10 + k.val := by
  revert k
  decide

theorem code_ofCode (c : BitVec 4) : (ScanState.ofCode c).code = c := by
  revert c
  decide

theorem ofCode_code (st : ScanState) : ScanState.ofCode st.code = st := by
  cases st with
  | unused k =>
    revert k
    decide
  | _ => rfl

/-- Settles O5: the named values' codes are R22's table, and `ofCode` is the inverse of `code` on both sides. -/
theorem scanStateCodes : Obligations.ScanStateCodes :=
  ⟨rfl, rfl, rfl, rfl, rfl, rfl, rfl, rfl, rfl, rfl, unused_code_toNat, code_ofCode, ofCode_code⟩

end Sys2Proof.Machine
end

section
/-! The family other, the codec: frames are well formed and an ill-formed one is refused (R81), VALIDATE against ENCODE
(R106), and chunks cut at CHUNK_CAPACITY (R152). -/

namespace Sys2Proof.Machine

/-! ## Well-formed frames (R81) -/

theorem wf_iff (f : Frame) : f.wf = true ↔ f.payload.length = f.length.toNat := by simp [Frame.wf]

/-- The length a frame of DECODE states is that of a shape. -/
theorem decodeChunk_frame_length {c : List Byte} {f : Frame} (h : decodeChunk c = .frame f) :
    f.length = 1#8 ∨ f.length = 16#8 := by
  obtain ⟨sh, -, rfl⟩ := decodeChunk_eq_frame h
  cases sh with
  | keyStatus => exact .inl rfl
  | broadcast => exact .inr rfl

theorem offersMalformedFrame_of_not_wf {s : State} {f : Frame} (hr : s.res = some (.frame f)) (hf : f.wf = false) :
    s.offersMalformedFrame = true := by
  simp [State.offersMalformedFrame, hr, hf]

theorem flushStep_malformed {s : State} (hoffer : s.offersMalformedFrame = true) :
    flushStep .ok s = .refused .malformedFrame := by
  have hread : ({ s with rxbuf := [] } : State).offersMalformedFrame = true := hoffer
  simp [flushStep, txReadAvailable, hread]

theorem dispatchStep_malformed {s : State} (hoffer : s.offersMalformedFrame = true) :
    dispatchStep s = .refused .malformedFrame := by
  simp [dispatchStep, hoffer]

/-- Settles O10: DECODE's frames are those of the shapes, and the two steps that present a frame ask whether it is
well formed. -/
theorem framesAreWellFormed : Obligations.FramesAreWellFormed := by
  refine ⟨fun c f hd => ⟨(wf_iff f).mp (decodeChunk_frame_wf hd), decodeChunk_frame_length hd⟩, fun s f hr hlen => ?_⟩
  have hoffer : s.begin.offersMalformedFrame = true :=
    offersMalformedFrame_of_not_wf (by simpa using hr) (Bool.eq_false_iff.mpr (mt (wf_iff f).mp hlen))
  constructor
  · intro hst hn
    rw [step_flush hn hst, flushStep_malformed hoffer]
  · rintro hst ⟨tx, hn⟩
    rw [step_dispatch hn hst, dispatchStep_malformed hoffer]

/-! ## VALIDATE and ENCODE (R106) -/

theorem toNat_ofNat8_length {p : List Byte} (hp : p.length ≤ 255) : (BitVec.ofNat 8 p.length).toNat = p.length := by
  rw [BitVec.toNat_ofNat, Nat.mod_eq_of_lt (by omega)]

/-- VALIDATE of a frame that states its payload's length compares the two checksums. -/
theorem validateChunk_checksumBytes (ck : List Byte → Half) (cmd : Byte) {p : List Byte} (k : Half) (t : List Byte)
    (hp : p.length ≤ 255) :
    validateChunk ck (cmd :: BitVec.ofNat 8 p.length :: (p ++ checksumBytes k ++ t)) =
      if k = ck (cmd :: BitVec.ofNat 8 p.length :: p) then .valid else .invalid := by
  rw [validateChunk_whole ck cmd _ p _ t (toNat_ofNat8_length hp).symm (checksumBytes_length k)]
  exact if_congr ⟨checksumBytes_inj, congrArg checksumBytes⟩ rfl rfl

/-- ENCODE's output is VALID, whatever follows it. -/
theorem validateChunk_encodeFrame {ck : List Byte → Half} {cmd : Byte} {p e : List Byte} (t : List Byte)
    (h : encodeFrame ck cmd p = .ok e) : validateChunk ck (e ++ t) = .valid := by
  obtain ⟨hp, rfl⟩ := eq_of_encodeFrame_eq_ok h
  exact (validateChunk_checksumBytes ck cmd _ t hp).trans (if_pos rfl)

/-- Settles O13: in both clauses the string is a whole frame, so the verdict is the comparison of the two checksums. -/
theorem validatorAcceptsEncoder : Obligations.ValidatorAcceptsEncoder := by
  intro ck cmd p _
  refine ⟨fun e t => validateChunk_encodeFrame t, fun cmd' p' t hp' hne => ?_⟩
  rw [validateChunk_checksumBytes ck cmd' _ t hp', if_neg hne.symm]

/-! ## Cutting a chunk (R152, D32) -/

/-- A chunk that is INCOMPLETE is shorter than the longest payload region, 2 + 16 bytes. -/
theorem length_lt_of_decodeChunk_incomplete {c : List Byte} (h : decodeChunk c = .incomplete) : c.length < 18 := by
  obtain ⟨rfl, -⟩ | ⟨b0, rest, sh, -, -, hd⟩ | ⟨b0, rest, -, -, hd⟩ := decodeChunk_cases c
  · simp
  · by_contra hlong
    have hsh := payloadLen_le sh
    simp [hd, extractShape_long sh c (by omega)] at h
  · simp [hd] at h

/-- A chunk that is SHORT is shorter than the longest wire frame, 4 + 255 bytes. -/
theorem length_lt_of_validateChunk_short {ck : List Byte → Half} {c : List Byte} (h : validateChunk ck c = .short) :
    c.length < 259 := by
  by_contra hlong
  match c with
  | [] | [_] => simp at hlong
  | c0 :: len :: rest =>
    have hlen := len.isLt
    have hwhole : ¬ (c0 :: len :: rest).length < 4 + len.toNat := by omega
    simp only [validateChunk, wirePayloadLen, hwhole, if_false] at h
    split at h <;> cases h

/-- Settles O15: a chunk that is cut is not INCOMPLETE and not SHORT, and the bytes cut off change no other verdict
(R107). -/
theorem capacityUnobservable : Obligations.CapacityUnobservable := by
  intro ck n c hn
  by_cases hc : c.length ≤ n
  · simp [List.take_of_length_le hc]
  have hlen : (c.take n).length = n := List.length_take_of_le (by omega)
  have hd : decodeChunk (c.take n) ≠ .incomplete := fun h => by
    have := length_lt_of_decodeChunk_incomplete h
    omega
  have hv : validateChunk ck (c.take n) ≠ .short := fun h => by
    have := length_lt_of_validateChunk_short h
    omega
  rw [← decodeChunk_append (c.drop n) hd, ← validateChunk_append (c.drop n) hv, List.take_append_drop]
  exact ⟨rfl, rfl⟩

end Sys2Proof.Machine
end

section
/-! The family other, single steps: what a step begins with and runs (R78, R140, R198), the byte-0 rows (R74, R75, R77),
CANCEL (R142), the waits, the flush and the handshakes (R148, R149, R155, R156, R197), reset (R220). -/

namespace Sys2Proof.Machine

/-! ## What a step begins with, and what it runs -/

theorem begin_cons {s : State} {t : Turn} {ts : List Turn} (h : s.turns = t :: ts) :
    s.begin = { s with turns := ts, response := none, event := none } := by
  simp [State.begin, h]

theorem begin_nil {s : State} (h : s.turns = []) :
    s.begin = { s with drawn := s.drawn + 1, response := none, event := none } := by
  simp [State.begin, h]

/-- Settles O25: a step takes the listed turn or draws a free one, by the list. -/
theorem stepBeginsWithNextTurn : Obligations.StepBeginsWithNextTurn :=
  ⟨fun s t ts hts => ⟨nextTurn_cons s t ts hts, begin_cons hts⟩, fun s hts => ⟨nextTurn_nil s hts, begin_nil hts⟩⟩

theorem runEncoded_dataLength {h : HeaderWord} {data : List Byte} (s : State) (hl : data.length ≠ (hdrCount h).toNat) :
    runEncoded (.request h data) s = .refused (.malformedRequest (hdrCount h).toNat data.length) := by
  simp [runEncoded, decode, hl]

theorem classifyStep_cons {s : State} {b0 : Byte} {rest : List Byte} (h : s.chunk = b0 :: rest) :
    classifyStep s = runEncoded (.byte0 b0) s := by
  simp [classifyStep, h]

/-- In S_CLASSIFY the step runs the row that byte 0 of CHUNK selects (R153). -/
theorem step_classify_byte0 {s : State} {tx : TxDraw} {b0 : Byte} {rest : List Byte} {i : Instr}
    (hn : s.nextTurn = .scanner tx) (hst : s.st = .classify) (hc : s.chunk = b0 :: rest)
    (hi : decode (.byte0 b0) = .ok i) : step s = exec i s.begin := by
  have hclassify : scannerStep tx s.begin = classifyStep s.begin := by simp [scannerStep, hst]
  rw [step_scanner hn, hclassify, classifyStep_cons (rest := rest) (by simpa using hc), runEncoded_ok _ hi]

/-- Settles O24: a request and byte 0 of CHUNK are decoded before anything is run. -/
theorem stepRunsDecodedInstruction : Obligations.StepRunsDecodedInstruction := by
  refine ⟨fun s h data i => step_request, fun s h data hn hl => ?_, fun s tx b0 rest i => step_classify_byte0⟩
  rw [step_caller hn, runEncoded_dataLength _ hl]

theorem decode_tableWord {nbits w : Nat} {i : Instr} (h : decodeTableWord nbits w = some i) :
    decode (tableWord nbits w) = .ok i := by
  unfold decodeTableWord at h
  split at h
  · rwa [← Option.some.inj h]
  · cases h

/-- Settles O26: the placed word is the next turn's, or byte 0 of the CHUNK that the next turn classifies. -/
theorem placedWordIsRun : Obligations.PlacedWordIsRun := by
  intro s nbits w i hi
  have hdec := decode_tableWord hi
  constructor
  · intro h data hw
    rw [hw] at hdec
    have hplaced : s.withFetchWord nbits w = { s with turns := .caller h data :: s.turns } := by
      simp [State.withFetchWord, hw]
    rw [hplaced, step_request (nextTurn_cons _ _ _ rfl) hdec, begin_cons rfl]
  · intro b0 hw
    rw [hw] at hdec
    have hplaced : s.withFetchWord nbits w = { s with
        st := .classify, chunk := b0 :: List.replicate 19 0#8, turns := .scanner .ok :: s.turns } := by
      simp [State.withFetchWord, hw]
    rw [hplaced, step_classify_byte0 (nextTurn_cons _ _ _ rfl) rfl rfl hdec, begin_cons rfl]

/-! ## The byte-0 rows (R74, R75, R77, R153) -/

theorem exec_keyStatusShape {s : State} {rest : List Byte} (h : s.chunk = 0x3F#8 :: rest) :
    exec .keyStatusShape s = .next (recordVerdict (decodeChunk s.chunk) s) := by
  rw [h, decodeChunk_cons _ _ .keyStatus rfl, ← h]
  rfl

theorem exec_broadcastShape {s : State} {rest : List Byte} (h : s.chunk = 0x41#8 :: rest) :
    exec .broadcastShape s = .next (recordVerdict (decodeChunk s.chunk) s) := by
  rw [h, decodeChunk_cons _ _ .broadcast rfl, ← h]
  rfl

theorem exec_unrecognized (b0 : Byte) (s : State) :
    exec (.unrecognized b0) s = .next (recordVerdict .unrecognized s) := rfl

/-- The classify step on a chunk that holds the payload of its shape whole. -/
theorem recordVerdict_shape_frame (sh : Shape) {s : State} {len : Byte} {p more : List Byte}
    (hc : s.chunk = sh.code :: len :: (p ++ more)) (hp : p.length = sh.payloadLen) :
    recordVerdict (decodeChunk s.chunk) s = { s with
      res := some (.frame ⟨sh.code, BitVec.ofNat 8 sh.payloadLen, p, 0#16⟩),
      crcStatus := validateChunk Config.checksum16 s.chunk, st := .flush } := by
  have hd : decodeChunk s.chunk = .frame ⟨sh.code, BitVec.ofNat 8 sh.payloadLen, p, 0#16⟩ := by
    rw [hc, decodeChunk_code_payload sh len more hp]
  rw [hd, recordVerdict_flush _ _ rfl]

/-- The classify step on a chunk that ends before its shape's payload region does, by FLUSH_ON_INCOMPLETE. -/
theorem recordVerdict_shape_incomplete (sh : Shape) {s : State} {rest : List Byte} (hc : s.chunk = sh.code :: rest)
    (hshort : rest.length < 1 + sh.payloadLen) :
    (s.params.flushOnIncomplete = true → recordVerdict (decodeChunk s.chunk) s = { s with
      res := some .incomplete, crcStatus := validateChunk Config.checksum16 s.chunk, st := .flush }) ∧
    (s.params.flushOnIncomplete = false → recordVerdict (decodeChunk s.chunk) s = { s with
      chunk := [], res := none, crcStatus := .none, st := .poll }) := by
  have hd : decodeChunk s.chunk = .incomplete := by rw [hc, decodeChunk_code_short sh hshort]
  rw [hd]
  exact ⟨recordVerdict_flush .incomplete s, recordVerdict_drop .incomplete s⟩

/-- Settles O21: the row is the classify step on a chunk of the key/status shape, of one payload byte. -/
theorem keyStatusShapeClassifies : Obligations.KeyStatusShapeClassifies := by
  intro s rest hc
  rw [exec_keyStatusShape hc]
  refine ⟨fun len b more hrest => ?frame, fun hshort hflush => ?flushed, fun hshort hdrop => ?dropped⟩
  case frame => exact congrArg Host.Outcome.next (recordVerdict_shape_frame .keyStatus (p := [b]) (hrest ▸ hc) rfl)
  case flushed => rw [(recordVerdict_shape_incomplete .keyStatus hc hshort).1 hflush]
  case dropped => rw [(recordVerdict_shape_incomplete .keyStatus hc hshort).2 hdrop]

/-- Settles O22: the row is the classify step on a chunk of the broadcast shape, of 16 payload bytes. -/
theorem broadcastShapeClassifies : Obligations.BroadcastShapeClassifies := by
  intro s rest hc
  rw [exec_broadcastShape hc]
  refine ⟨fun len p more hrest hp => ?frame, fun hshort hflush => ?flushed, fun hshort hdrop => ?dropped⟩
  case frame => exact congrArg Host.Outcome.next (recordVerdict_shape_frame .broadcast (hrest ▸ hc) hp)
  case flushed => rw [(recordVerdict_shape_incomplete .broadcast hc hshort).1 hflush]
  case dropped => rw [(recordVerdict_shape_incomplete .broadcast hc hshort).2 hdrop]

/-- Settles O23: the verdict is UNRECOGNIZED whatever the chunk is, and the flush policy reads FLUSH_ON_UNRECOGNIZED. -/
theorem unrecognizedIsDropped : Obligations.UnrecognizedIsDropped := by
  intro s b0
  rw [exec_unrecognized]
  constructor
  · intro hdrop
    rw [recordVerdict_drop .unrecognized s hdrop, dropChunk]
  · intro hflush
    rw [recordVerdict_flush .unrecognized s hflush]

/-! ## CANCEL (R142) -/

/-- Settles O18: the two answers of CANCEL on a named ST, each with the header of its bare response. -/
theorem cancelAnswers : Obligations.CancelAnswers :=
  fun cmd _ => ⟨execCancel_tearDown cmd, execCancel_exited cmd⟩

/-! ## The waits (R148, R149, R204) -/

theorem idleWaitStep_early {s : State} (ht : s.idleTimer ≠ .expired) : idleWaitStep s = s := by
  simp [idleWaitStep, ht]

theorem settleStep_early {s : State} (ht : s.settleTimer ≠ .expired) : settleStep s = s := by
  simp [settleStep, ht]

/-- A timer that does not run is left as it is (log 2). -/
theorem expire_of_not_running {t : Timer} (h : t ≠ .running) : t.expire = t := by
  cases t with
  | running => exact absurd rfl h
  | _ => rfl

theorem step_idleTimerExpires {s : State} (hn : s.nextTurn = .idleTimerExpires) :
    step s = .next { s.begin with idleTimer := s.begin.idleTimer.expire } := by
  simp [step, hn, runTurn]

theorem step_settleTimerExpires {s : State} (hn : s.nextTurn = .settleTimerExpires) :
    step s = .next { s.begin with settleTimer := s.begin.settleTimer.expire } := by
  simp [step, hn, runTurn]

/-- Settles O28: the two waits ask whether their timer has expired, and an expiry turn asks whether the timer runs. -/
theorem timedWaits : Obligations.TimedWaits := by
  refine ⟨fun s tx hn => ⟨?idleEnds, ?idleWaits, ?settleEnds, ?settleWaits⟩, fun s hn => ⟨?idleExpires, ?idleKept⟩,
    fun s hn => ⟨?settleExpires, ?settleKept⟩⟩
  case idleEnds =>
    intro hst ht
    rw [step_idleWait hn hst, idleWaitStep_expired (by simpa using ht)]
  case idleWaits =>
    intro hst ht
    rw [step_idleWait hn hst, idleWaitStep_early (by simpa using ht)]
  case settleEnds =>
    intro hst ht
    rw [step_settle hn hst, settleStep_expired (by simpa using ht)]
  case settleWaits =>
    intro hst ht
    rw [step_settle hn hst, settleStep_early (by simpa using ht)]
  case idleExpires =>
    intro ht
    rw [step_idleTimerExpires hn, begin_idleTimer, ht, Timer.expire]
  case idleKept =>
    intro ht
    rw [step_idleTimerExpires hn, expire_of_not_running (by simpa using ht)]
  case settleExpires =>
    intro ht
    rw [step_settleTimerExpires hn, begin_settleTimer, ht, Timer.expire]
  case settleKept =>
    intro ht
    rw [step_settleTimerExpires hn, expire_of_not_running (by simpa using ht)]

/-! ## S_FLUSH (R155), S_DISPATCH (R156), S_FAULT (R197) -/

/-- Settles O32 (`flushStep` is the model's function): its branches, by the draw and by what RES
holds. -/
theorem scannerFlushStep : Obligations.FlushStep := by
  intro s tx hn hst
  rw [step_flush hn hst]
  refine ⟨?err, ?frame, ?drop⟩
  case err =>
    rintro left rfl
    rw [flushStep_err]
    rfl
  case frame =>
    rintro f rfl hr hf
    rw [flushStep_frame (by simpa using hr) hf]
  case drop =>
    rintro rfl hr
    rw [flushStep_drop (by simpa using hr), dropChunk]

theorem dispatchStep_wait {s : State} (hoffer : s.offersMalformedFrame = false) (hd : s.dispatchDone = false) :
    dispatchStep s = .next s := by
  simp [dispatchStep, hoffer, hd]

theorem frameOut_dispatch {s : State} {f : Frame} (hst : s.st = .dispatch) (hr : s.res = some (.frame f)) :
    s.frameOut = some (f, s.crcStatus) := by
  simp [State.frameOut, hst, hr]

theorem frameOutValid_iff (s : State) : s.frameOutValid = true ↔ s.st = .dispatch := by
  simp [State.frameOutValid]

/-- Settles O33 (`dispatchStep` is the model's function): FRAME_OUT is read from the state, and the step presents a
well-formed frame until dispatch_done. -/
theorem scannerDispatchStep : Obligations.DispatchStep := by
  intro s f hst hr hf
  have hoffer : s.begin.offersMalformedFrame = false := offersMalformedFrame_of_wf (by simpa using hr) hf
  refine ⟨(frameOutValid_iff s).mpr hst, frameOut_dispatch hst hr, ?done, ?wait⟩
  case done =>
    rintro ⟨tx, hn⟩ hd
    rw [step_dispatch hn hst, dispatchStep_done hoffer (by simpa using hd), dropChunk]
  case wait =>
    rintro ⟨tx, hn⟩ hd
    rw [step_dispatch hn hst, dispatchStep_wait hoffer (by simpa using hd)]

theorem faultStep_wait {s : State} (hd : s.reconnectDone = false) : faultStep s = s := by
  simp [faultStep, hd]

/-- Settles O35 (`faultReturn` is the model's function): `faultStep` waits for reconnect_done and then returns. -/
theorem scannerFaultReturn : Obligations.FaultReturn := by
  rintro s hst ⟨tx, hn⟩
  rw [step_fault hn hst]
  constructor
  · intro hd
    rw [faultStep_done (by simpa using hd), faultReturn]
  · intro hd
    rw [faultStep_wait (by simpa using hd)]

/-! ## States without a step, and handshakes that no state waits for (R143, R158, R221) -/

theorem step_scanner_reset {s : State} {tx : TxDraw} (hn : s.nextTurn = .scanner tx) (hst : s.st = .reset) :
    step s = .next s.begin := by
  simp [step_scanner hn, scannerStep, hst]

theorem step_dispatcherDone {s : State} (hn : s.nextTurn = .dispatcherDone) :
    step s = .next (assertDispatchDone s.begin) := by
  simp [step, hn, runTurn]

theorem step_supervisorDone {s : State} (hn : s.nextTurn = .supervisorDone) :
    step s = .next (assertReconnectDone s.begin) := by
  simp [step, hn, runTurn]

/-- Settles O36: the scanner's step in the two states, and the one state in which each handshake is kept. -/
theorem statesWithoutStep : Obligations.StatesWithoutStep := by
  refine ⟨?scanner, fun s hn => ?dispatcher, fun s hn => ?supervisor⟩
  case scanner =>
    rintro s ⟨tx, hn⟩ (hst | hst)
    · exact step_scanner_reset hn hst
    · exact step_exited hn hst
  case dispatcher =>
    rw [step_dispatcherDone hn]
    constructor <;> intro hst <;> simp [assertDispatchDone, hst]
  case supervisor =>
    rw [step_supervisorDone hn]
    constructor <;> intro hst <;> simp [assertReconnectDone, hst]

/-! ## The OWNER's turns (R220, R29) -/

/-- Settles O39: `applyReset` writes the registers and the handshake bits and nothing else. -/
theorem resetFromAnyState : Obligations.ResetFromAnyState := fun _ hn => step_ownerResets hn

theorem scannerMove_params {tx : TxDraw} {s t : State} (hm : ScannerMove tx s t) : t.params = s.params := by
  cases hm <;> simp

theorem requestEffect_params {i : Instr} {s t : State} (he : RequestEffect i s t) : t.params = s.params := by
  cases he <;> simp

/-- Settles O53: no turn's effect writes the parameters, and the OWNER's turn that would is refused. -/
theorem parametersNeverChange : Obligations.ParametersNeverChange := by
  refine ⟨fun s t h => ?kept, fun s p hn => ?refused⟩
  case kept =>
    cases step_move h with
    | request hd data i t hn hi he => simpa using requestEffect_params he
    | scanner tx t hn hm => simpa using scannerMove_params hm
    | _ => simp
  case refused => simp [step, hn, runTurn]

end Sys2Proof.Machine
end

section
/-! The family other, the invariant of the block: it holds after reset and every step keeps it, no step from it faults,
and an unused ST is made by no step and stops what reads ST (R23 to R28, R37, R204). -/

namespace Sys2Proof.Machine

/-! ## The two parts of the invariant -/

/-- A named value of ST in which no chunk is held (R23). -/
def ScanState.HoldsNoChunk : ScanState → Prop
  | .classify | .flush | .dispatch | .unused _ => False
  | _ => True

/-- The part of the invariant that speaks of CHUNK, RES and CRC_STATUS. -/
structure State.ChunkPart (s : State) : Prop where
  held : s.ChunkHeld
  wide : ∀ n, s.params.chunkCapacity = some n → 259 ≤ n
  fits : ∀ n, s.params.chunkCapacity = some n → s.chunk.length ≤ n

/-- The part of the invariant that speaks of the levels, the timers and the handshakes of ST. -/
structure State.ControlPart (s : State) : Prop where
  reconnectLevel : s.reconnectReq = true ↔ s.st = .fault
  causeRecorded : s.st = .fault → s.faultCause ≠ .none
  idleTimerOn : s.idleTimer ≠ .stopped ↔ s.st = .idleWait
  settleTimerOn : s.settleTimer ≠ .stopped ↔ s.st = .settle
  dispatchDoneOn : s.dispatchDone = true → s.st = .dispatch
  reconnectDoneOn : s.reconnectDone = true → s.st = .fault

theorem State.inv_iff (s : State) : s.Inv ↔ s.ChunkPart ∧ s.ControlPart := by
  constructor
  · rintro ⟨held, wide, fits, reconnect, cause, idle, settle, dispatch, done⟩
    exact ⟨⟨held, wide, fits⟩, ⟨reconnect, cause, idle, settle, dispatch, done⟩⟩
  · rintro ⟨⟨held, wide, fits⟩, ⟨reconnect, cause, idle, settle, dispatch, done⟩⟩
    exact ⟨held, wide, fits, reconnect, cause, idle, settle, dispatch, done⟩

/-- Where no chunk is held, CHUNK, RES and CRC_STATUS are empty. -/
theorem chunkHeld_iff_of_holdsNoChunk {s : State} (hst : s.st.HoldsNoChunk) :
    s.ChunkHeld ↔ s.chunk = [] ∧ s.res = none ∧ s.crcStatus = .none := by
  unfold State.ChunkHeld
  cases hcase : s.st with
  | classify | flush | dispatch | unused => simp [hcase, ScanState.HoldsNoChunk] at hst
  | _ => rfl

theorem chunkPart_of_empty {s : State} (hst : s.st.HoldsNoChunk) (hchunk : s.chunk = []) (hres : s.res = none)
    (hcrc : s.crcStatus = .none) (wide : ∀ n, s.params.chunkCapacity = some n → 259 ≤ n) : s.ChunkPart :=
  ⟨(chunkHeld_iff_of_holdsNoChunk hst).mpr ⟨hchunk, hres, hcrc⟩, wide, by simp [hchunk]⟩

theorem State.ChunkPart.begin {s : State} (h : s.ChunkPart) : s.begin.ChunkPart :=
  ⟨by simpa [State.ChunkHeld] using h.held, by simpa using h.wide, by simpa using h.fits⟩

theorem State.ControlPart.begin {s : State} (h : s.ControlPart) : s.begin.ControlPart := by
  obtain ⟨reconnect, cause, idle, settle, dispatch, done⟩ := h
  constructor <;> simpa

/-! ## The scanner keeps the invariant -/

theorem length_capChunk_le {p : Params} {n : Nat} (bytes : List Byte) (h : p.chunkCapacity = some n) :
    (capChunk p bytes).length ≤ n := by
  simp [capChunk, h]

/-- A capacity of at least 259 leaves something of what was drained. -/
theorem capChunk_ne_nil {p : Params} {bytes : List Byte} (wide : ∀ n, p.chunkCapacity = some n → 259 ≤ n)
    (h : bytes ≠ []) : capChunk p bytes ≠ [] := by
  unfold capChunk
  split
  case h_1 => exact h
  case h_2 n hcap =>
    have := wide n hcap
    simp [List.take_eq_nil_iff, h]
    omega

/-- The scanner stores a chunk in the drain, writes its verdicts in the classify step and goes on with a frame in the
flush; every other move leaves no chunk. -/
theorem scannerMove_chunkPart {tx : TxDraw} {s t : State} (h : s.ChunkPart) (hm : ScannerMove tx s t) :
    t.ChunkPart := by
  obtain ⟨held, wide, fits⟩ := h
  have hempty (hst : s.st.HoldsNoChunk) := (chunkHeld_iff_of_holdsNoChunk hst).mp held
  cases hm with
  | wait => exact ⟨held, wide, fits⟩
  | drainBytes hst htx hb =>
    obtain ⟨-, hres, hcrc⟩ := hempty (hst ▸ trivial)
    exact ⟨⟨capChunk_ne_nil wide hb, hres, hcrc⟩, wide, fun n => length_capChunk_le _⟩
  | classifyFlush hst hflush =>
    obtain ⟨hchunk, -⟩ : s.chunk ≠ [] ∧ _ := by simpa only [State.ChunkHeld, hst] using held
    exact ⟨⟨hchunk, rfl, rfl, hflush⟩, wide, fits⟩
  | flushFrame f hst htx hr hf =>
    obtain ⟨hchunk, hres, hcrc, -⟩ : s.chunk ≠ [] ∧ s.res = some (decodeChunk s.chunk) ∧
        s.crcStatus = validateChunk Config.checksum16 s.chunk ∧ _ := by
      simpa only [State.ChunkHeld, hst] using held
    exact ⟨⟨hchunk, ⟨f, Option.some.inj (hres.symm.trans hr)⟩, hres, hcrc⟩, wide, fits⟩
  | pollErr | drainErr | flushErr | classifyDrop | flushDrop | dispatchDone =>
    exact chunkPart_of_empty trivial rfl rfl rfl wide
  | pollClosed hst | pollNone hst | pollSome hst | idleExpired hst | settleExpired hst | drainEmpty hst
  | reconnectDone hst =>
    obtain ⟨hchunk, hres, hcrc⟩ := hempty (hst ▸ trivial)
    exact chunkPart_of_empty trivial hchunk hres hcrc wide

/-- Every move of the scanner leaves the levels, timers and handshakes as the ST it enters has them. -/
theorem scannerMove_controlPart {tx : TxDraw} {s t : State} (h : s.ControlPart) (hm : ScannerMove tx s t) :
    t.ControlPart := by
  obtain ⟨reconnect, cause, idle, settle, dispatch, done⟩ := h
  cases hm with
  | wait => exact ⟨reconnect, cause, idle, settle, dispatch, done⟩
  | _ => constructor <;> simp_all

/-! ## Requests and the other turns keep the invariant -/

theorem inv_tearDown {s : State} (wide : ∀ n, s.params.chunkCapacity = some n → 259 ≤ n) : (tearDown s).Inv :=
  (State.inv_iff _).mpr ⟨chunkPart_of_empty trivial rfl rfl rfl wide, by constructor <;> simp⟩

theorem inv_applyReset {s : State} (wide : ∀ n, s.params.chunkCapacity = some n → 259 ≤ n) : (applyReset s).Inv :=
  (State.inv_iff _).mpr ⟨chunkPart_of_empty trivial rfl rfl rfl wide, by constructor <;> simp⟩

/-- No response is part of the invariant. -/
theorem State.Inv.respond {s : State} (hi : s.Inv) (r : Response) : (respond r s).Inv := by
  obtain ⟨held, wide, fits, reconnect, cause, idle, settle, dispatch, done⟩ := hi
  exact ⟨held, wide, fits, reconnect, cause, idle, settle, dispatch, done⟩

theorem State.Inv.begin {s : State} (hi : s.Inv) : s.begin.Inv := by
  obtain ⟨chunk, control⟩ := s.inv_iff.mp hi
  exact s.begin.inv_iff.mpr ⟨chunk.begin, control.begin⟩

theorem scannerMove_inv {tx : TxDraw} {s t : State} (hi : s.Inv) (hm : ScannerMove tx s t) : t.Inv := by
  obtain ⟨chunk, control⟩ := s.inv_iff.mp hi
  exact t.inv_iff.mpr ⟨scannerMove_chunkPart chunk hm, scannerMove_controlPart control hm⟩

/-- START leaves S_RESET with no chunk, no timer and no handshake (R141). -/
theorem State.Inv.started {s : State} (hi : s.Inv) (hst : s.st = .reset) : { s with st := .poll }.Inv := by
  obtain ⟨⟨held, wide, -⟩, ⟨reconnect, cause, idle, settle, dispatch, done⟩⟩ := s.inv_iff.mp hi
  obtain ⟨hchunk, hres, hcrc⟩ := (chunkHeld_iff_of_holdsNoChunk (hst ▸ trivial)).mp held
  exact (State.inv_iff _).mpr ⟨chunkPart_of_empty trivial hchunk hres hcrc wide, by constructor <;> simp_all⟩

theorem requestEffect_inv {i : Instr} {s t : State} (hi : s.Inv) (he : RequestEffect i s t) : t.Inv := by
  cases he with
  | answered r => exact hi.respond r
  | started cmd hstart hst => exact (hi.started hst).respond _
  | cancelled cmd => exact (inv_tearDown hi.capacityWide).respond _

theorem expire_ne_stopped_iff (t : Timer) : t.expire ≠ .stopped ↔ t ≠ .stopped := by
  cases t <;> decide

/-- Settles O41: the scanner's moves and the requests keep each part of the invariant, reset establishes it, and the
other turns write no register it speaks of, or one as the invariant has it in that ST. -/
theorem invariantKept : Obligations.InvariantKept := by
  intro s t hi h
  have hb := hi.begin
  cases step_move h with
  | request hd data i t hn hdec he => exact requestEffect_inv hb he
  | scanner tx t hn hm => exact scannerMove_inv hb hm
  | reset hn => exact inv_applyReset hb.capacityWide
  | _ =>
    obtain ⟨held, wide, fits, reconnect, cause, idle, settle, dispatch, done⟩ := hb
    exact ⟨held, wide, fits, reconnect, cause, by simpa [expire_ne_stopped_iff] using idle,
      by simpa [expire_ne_stopped_iff] using settle, by simp_all, by simp_all⟩

/-- Settles O40: `State.reset` holds nothing, and its parameters bound no chunk. -/
theorem invariantAtReset : Obligations.InvariantAtReset :=
  (State.inv_iff _).mpr ⟨chunkPart_of_empty trivial rfl rfl rfl (by simp [State.reset, Params.defaults]),
    by constructor <;> decide⟩

/-! ## From the invariant every step goes on (R37, R81, R78, R29) -/

theorem flushStep_total (tx : TxDraw) {s : State} (hoffer : s.offersMalformedFrame = false) :
    ∃ t, flushStep tx s = .next t := by
  cases tx with
  | err left => exact ⟨_, flushStep_err s left⟩
  | ok =>
    by_cases hframe : ∃ f, s.res = some (.frame f)
    · obtain ⟨f, hr⟩ := hframe
      exact ⟨_, flushStep_frame hr (by simpa [State.offersMalformedFrame, hr] using hoffer)⟩
    · exact ⟨_, flushStep_drop (not_exists.mp hframe)⟩

theorem dispatchStep_total {s : State} (hoffer : s.offersMalformedFrame = false) : ∃ t, dispatchStep s = .next t := by
  cases hd : s.dispatchDone with
  | true => exact ⟨_, dispatchStep_done hoffer hd⟩
  | false => exact ⟨_, dispatchStep_wait hoffer hd⟩

/-- The scanner stops only on an ill-formed frame or an unused ST, and the invariant excludes both. -/
theorem scannerStep_total (tx : TxDraw) {s : State} (hi : s.Inv) : ∃ t, scannerStep tx s = .next t := by
  unfold scannerStep
  split
  case h_6 => exact ⟨_, classifyStep_eq s⟩
  case h_7 => exact flushStep_total tx hi.offersMalformedFrame_eq_false
  case h_8 => exact dispatchStep_total hi.offersMalformedFrame_eq_false
  case h_11 k hst => exact absurd hst (hi.st_ne_unused k)
  all_goals exact ⟨_, rfl⟩

theorem exec_total {i : Instr} {s : State} (hnamed : ∀ k, s.st ≠ .unused k) : ∃ t, exec i s = .next t := by
  obtain hnext | ⟨-, k, hst⟩ := exec_request_total i s
  · exact hnext
  · exact absurd hst (hnamed k)

/-- From a state of the invariant a step answers a state, or its turn is one of the two that are refused. -/
theorem step_total {s : State} (hi : s.Inv) :
    (∃ t, step s = .next t) ∨
    (∃ h data, s.nextTurn = .caller h data ∧ data.length ≠ (hdrCount h).toNat ∧
      step s = .refused (.malformedRequest (hdrCount h).toNat data.length)) ∨
    (∃ p, s.nextTurn = .ownerSetsParams p ∧ step s = .refused .parameterChange) := by
  cases hn : s.nextTurn with
  | caller h data =>
    by_cases hl : data.length = (hdrCount h).toNat
    · rw [step_request hn (decode_request hl)]
      exact .inl (exec_total hi.begin.st_ne_unused)
    · exact .inr (.inl ⟨h, data, rfl, hl, by rw [step_caller hn, runEncoded_dataLength _ hl]⟩)
  | scanner tx =>
    rw [step_scanner hn]
    exact .inl (scannerStep_total tx hi.begin)
  | ownerSetsParams p => exact .inr (.inr ⟨p, rfl, parametersNeverChange.2 s p hn⟩)
  | _ => exact .inl ⟨_, by rw [step, hn, runTurn]⟩

/-- Settles O42: `step_total` names the only two turns that do not go on, and neither faults. -/
theorem invariantStatesGoOn : Obligations.InvariantStatesGoOn := by
  intro s hi
  obtain ⟨t, ht⟩ | ⟨h, data, hn, hl, hrefused⟩ | ⟨p, hn, hrefused⟩ := step_total hi
  · simp [ht]
  · exact ⟨by simp [hrefused], fun _ _ => .inl ⟨h, data, hn, hl⟩⟩
  · exact ⟨by simp [hrefused], fun _ _ => .inr ⟨p, hn⟩⟩

/-! ## An unused ST (R37) -/

/-- No row of the transition summary leads to an unused ST. -/
theorem TransitionRow.ne_unused {s : State} {q : ScanState} (hrow : TransitionRow s q) (k : Fin 6) :
    q ≠ .unused k := by
  cases hrow <;> simp

theorem step_unused {s : State} {k : Fin 6} (hst : s.st = .unused k)
    (hreads : s.ScannerNext ∨ s.StartNext ∨ s.CancelNext) : step s = .fault .badState := by
  obtain ⟨tx, hn⟩ | ⟨h, data, cmd, hn, hd⟩ | ⟨h, data, cmd, hn, hd⟩ := hreads
  · simp [step_scanner hn, scannerStep, hst]
  · simp [step_request hn hd, exec, execStart, hst]
  · simp [step_request hn hd, exec, execCancel, hst]

/-- Settles O37: a step that changes ST takes a row of the transition summary, and no row makes an unused value. -/
theorem unusedScanStateFaults : Obligations.UnusedScanStateFaults := by
  refine ⟨fun s t k h ht => ?_, fun s k => step_unused⟩
  by_contra hs
  have hne : t.st ≠ s.st := fun he => hs (he.symm.trans ht)
  exact (transitionRow_of_step h hne).ne_unused k ht

end Sys2Proof.Machine
end

section
/-! The family other, frames and surroundings: what FRAME_OUT shows and how long (R27, R58, R159, R231), RXBUF (R54),
the open flag (R55), the wire (R56), FAULT_CAUSE (R26) and the events (R198). -/

namespace Sys2Proof.Machine

/-! ## What FRAME_OUT shows (R27, R159) -/

theorem frameOut_eq_some {s : State} {f : Frame} {crc : CrcStatus} (h : s.frameOut = some (f, crc)) :
    s.st = .dispatch ∧ s.res = some (.frame f) ∧ s.crcStatus = crc := by
  unfold State.frameOut at h
  split at h
  · cases h
    exact ⟨by assumption, by assumption, rfl⟩
  · cases h

/-- A frame of DECODE lies at the start of the chunk: discriminator, a length byte, the payload, then anything. -/
theorem decodeChunk_frame_split {c : List Byte} {f : Frame} (h : decodeChunk c = .frame f) :
    ∃ (sh : Shape) (len : Byte) (p rest : List Byte), c = sh.code :: len :: (p ++ rest) ∧ p.length = sh.payloadLen ∧
      f = ⟨sh.code, BitVec.ofNat 8 sh.payloadLen, p, 0#16⟩ := by
  obtain ⟨rfl, hd⟩ | ⟨b0, rest, sh, rfl, hb0, hd⟩ | ⟨b0, rest, rfl, -, hd⟩ := decodeChunk_cases c
  · simp [hd] at h
  · obtain rfl := shapeOf_eq_some hb0
    by_cases hlen : (sh.code :: rest).length < 2 + sh.payloadLen
    · simp [hd, extractShape_short sh _ hlen] at h
    · cases rest with
      | nil => simp at hlen; omega
      | cons len body =>
        have hbody : sh.payloadLen ≤ body.length := by simp only [List.length_cons] at hlen; omega
        rw [decodeChunk_code_long sh len hbody] at h
        exact ⟨sh, len, body.take sh.payloadLen, body.drop sh.payloadLen, by simp, by simpa using hbody,
          (Verdict.frame.inj h).symm⟩
  · simp [hd] at h

/-- A frame is that of the 2 + N bytes it takes up. -/
theorem decodeChunk_take_of_frame {c : List Byte} {f : Frame} (h : decodeChunk c = .frame f) :
    decodeChunk (c.take (2 + f.length.toNat)) = .frame f := by
  obtain ⟨sh, len, p, rest, rfl, hp, rfl⟩ := decodeChunk_frame_split h
  have hN : (BitVec.ofNat 8 sh.payloadLen).toNat = p.length := by
    rw [hp]
    cases sh <;> rfl
  have htake : (sh.code :: len :: (p ++ rest)).take (2 + p.length) = sh.code :: len :: (p ++ []) := by
    rw [Nat.add_comm]
    simp
  rw [hN, htake, decodeChunk_code_payload sh len [] hp]

/-- Settles O46: what is presented is RES and CRC_STATUS, which in S_DISPATCH are the verdicts on CHUNK. -/
theorem presentedFrameIsTheChunks : Obligations.PresentedFrameIsTheChunks := by
  intro s f crc hi hout
  obtain ⟨hst, hr, rfl⟩ := frameOut_eq_some hout
  obtain ⟨-, -, hres, hcrc⟩ : s.chunk ≠ [] ∧ (∃ f, decodeChunk s.chunk = .frame f) ∧
      s.res = some (decodeChunk s.chunk) ∧ s.crcStatus = validateChunk Config.checksum16 s.chunk := by
    simpa only [State.ChunkHeld, hst] using hi.chunkHeld
  have hd : decodeChunk s.chunk = .frame f := Option.some.inj (hres.symm.trans hr)
  exact ⟨hst, hd, decodeChunk_frame_wf hd, decodeChunk_take_of_frame hd, hcrc⟩

/-! ## One frame of a chunk (R58, R159) -/

/-- What a step can do to CHUNK: keep it, empty it, or fill it by a drain. -/
theorem step_chunk {s t : State} (h : step s = .next t) :
    t.chunk = s.chunk ∨ t.chunk = [] ∨ (s.st = .drain ∧ s.ScannerOk) := by
  cases step_move h with
  | request hd data i t hn hi he => cases he <;> simp
  | scanner tx t hn hm =>
    cases hm with
    | drainBytes hst htx =>
      obtain rfl := htx
      exact .inr (.inr ⟨by simpa using hst, hn⟩)
    | _ => simp
  | _ => simp

/-- A frame is presented from a flush on: the branch of the classify step to S_DISPATCH is never taken (R154). -/
theorem TransitionRow.flush_of_dispatch {s : State} (hrow : TransitionRow s .dispatch) :
    s.st = .flush ∧ s.ScannerOk := by
  cases hrow with
  | classifyFrame f hst hs hf hdrop => exact absurd hf (not_frame_of_not_flushed hdrop f)
  | flushFrame f hst hs => exact ⟨hst, hs⟩

/-- S_DISPATCH is left by dispatch_done, CANCEL or reset. -/
theorem TransitionRow.of_dispatch {s : State} {q : ScanState} (hrow : TransitionRow s q) (hst : s.st = .dispatch) :
    (s.ScannerNext ∧ s.dispatchDone = true ∧ q = .poll) ∨ (s.CancelNext ∧ q = .exited) ∨
      (s.nextTurn = .ownerResets ∧ q = .reset) := by
  cases hrow with
  | dispatchDone _ hs hd => exact .inl ⟨hs, hd, rfl⟩
  | cancel _ hc => exact .inr (.inl ⟨hc, rfl⟩)
  | ownerReset hn => exact .inr (.inr ⟨hn, rfl⟩)
  | _ => simp_all

theorem State.Inv.chunk_ne_nil_of_dispatch {s : State} (hi : s.Inv) (hst : s.st = .dispatch) : s.chunk ≠ [] := by
  have hheld := hi.chunkHeld
  simp only [State.ChunkHeld, hst] at hheld
  exact hheld.1

theorem State.Inv.chunk_eq_nil {s : State} (hi : s.Inv) (hst : s.st.HoldsNoChunk) : s.chunk = [] :=
  ((chunkHeld_iff_of_holdsNoChunk hst).mp hi.chunkHeld).1

/-- Settles O47: the transition summary says how S_DISPATCH is entered and left, and the invariant, which the step
keeps, what CHUNK is then. -/
theorem oneFramePerChunk : Obligations.OneFramePerChunk := by
  intro s t hi h
  have hi' : t.Inv := invariantKept s t hi h
  refine ⟨fun hs ht => ?filled, fun hs ht => ?presented, fun hs ht => ?gone⟩
  case filled =>
    obtain hsame | hempty | hdrain := step_chunk h
    · exact absurd (hsame.trans hs) ht
    · exact absurd hempty ht
    · exact hdrain
  case presented =>
    have hst : s.st ≠ .dispatch := (frameOutValid_eq_false_iff s).mp hs
    have htst : t.st = .dispatch := (frameOutValid_iff t).mp ht
    have hrow := transitionRow_of_step h (by rw [htst]; exact hst.symm)
    obtain ⟨hflush, hok⟩ := (htst ▸ hrow).flush_of_dispatch
    refine ⟨hflush, hok, ?_⟩
    obtain hsame | hempty | ⟨hdrain, -⟩ := step_chunk h
    · exact hsame
    · exact absurd hempty (hi'.chunk_ne_nil_of_dispatch htst)
    · simp [hflush] at hdrain
  case gone =>
    have hst : s.st = .dispatch := (frameOutValid_iff s).mp hs
    have htst : t.st ≠ .dispatch := (frameOutValid_eq_false_iff t).mp ht
    have hrow := transitionRow_of_step h (by rwa [hst])
    obtain ⟨-, -, hq⟩ | ⟨-, hq⟩ | ⟨-, hq⟩ := hrow.of_dispatch hst <;> exact hi'.chunk_eq_nil (hq ▸ trivial)

/-! ## A frame is held until it is done with (R58, R231) -/

/-- A step that stays in S_DISPATCH leaves FRAME_OUT as it is. -/
theorem step_frameOut_of_dispatch {s t : State} (hst : s.st = .dispatch) (h : step s = .next t) (htst : t.st = s.st) :
    t.frameOut = s.frameOut := by
  have hout : t.res = s.res ∧ t.crcStatus = s.crcStatus := by
    cases step_move h with
    | request hd data i t hn hi he => cases he <;> simp_all
    | scanner tx t hn hm => cases hm <;> simp_all
    | reset hn => simp_all
    | _ => simp
  obtain ⟨hres, hcrc⟩ := hout
  simp [State.frameOut, htst, hres, hcrc]

/-- The scanner's step in S_DISPATCH makes no transport call. -/
theorem step_transport_of_dispatch {s t : State} (hst : s.st = .dispatch) (hs : s.ScannerNext)
    (h : step s = .next t) : t.rxbuf = s.rxbuf ∧ t.txOpen = s.txOpen := by
  obtain ⟨tx, hn⟩ := hs
  rw [step_scanner hn] at h
  cases scannerStep_move h with
  | wait | dispatchDone => simp
  | _ => simp_all

/-- Settles O48: a step that leaves S_DISPATCH does so by one of the three rows, and one that stays keeps FRAME_OUT. -/
theorem frameHeldUntilDone : Obligations.FrameHeldUntilDone := by
  intro s t hs h
  have hst : s.st = .dispatch := (frameOutValid_iff s).mp hs
  refine ⟨?_, fun hscan => step_transport_of_dispatch hst hscan h⟩
  by_cases htst : t.st = s.st
  · exact .inl (step_frameOut_of_dispatch hst h htst)
  · exact .inr ((transitionRow_of_step h htst).of_dispatch hst)

/-! ## RXBUF (R54) -/

theorem step_transportReceives {s : State} {bytes : List Byte} (hn : s.nextTurn = .transportReceives bytes) :
    step s = .next { s.begin with rxbuf := s.begin.rxbuf ++ bytes } := by
  simp [step, hn, runTurn]

/-- What the scanner can do to RXBUF. -/
theorem scannerMove_rxbuf {tx : TxDraw} {s t : State} (hm : ScannerMove tx s t) :
    t.rxbuf = s.rxbuf ∨ (tx = .ok ∧ (s.st = .drain ∨ s.st = .flush) ∧ t.rxbuf = []) ∨
      ∃ left, tx = .err left ∧ (s.st = .poll ∨ s.st = .drain ∨ s.st = .flush) ∧ t.rxbuf = left := by
  cases hm with
  | pollErr left hst _ htx | drainErr left hst htx | flushErr left hst htx =>
    exact .inr (.inr ⟨left, htx, by simp [hst], rfl⟩)
  | drainEmpty hst htx | drainBytes hst htx | flushDrop hst htx =>
    exact .inr (.inl ⟨htx, by simp [hst], rfl⟩)
  | flushFrame f hst htx => exact .inr (.inl ⟨htx, by simp [hst], rfl⟩)
  | _ => exact .inl rfl

/-- Settles O55: the two turns of the transport are equations of the step, and of the other turns the scanner's alone
touch RXBUF (`scannerMove_rxbuf`). -/
theorem receiveBufferRules : Obligations.ReceiveBufferRules := by
  refine ⟨fun s bytes hn => ?received, fun s hn => ?dropped, fun s t h => ?causes⟩
  case received => rw [step_transportReceives hn, begin_rxbuf]
  case dropped => simp [step, hn, runTurn]
  case causes =>
    cases step_move h with
    | request hd data i t hn hi he => cases he <;> exact .inl (by simp)
    | scanner tx t hn hm =>
      obtain hkept | ⟨rfl, hst, hb⟩ | ⟨left, rfl, hst, hb⟩ := scannerMove_rxbuf hm
      · exact .inl (by simpa using hkept)
      · exact .inr (.inr (.inr (.inl ⟨hn, by simpa using hst, hb⟩)))
      · exact .inr (.inr (.inr (.inr ⟨left, hn, by simpa using hst, hb⟩)))
    | received bytes hn => exact .inr (.inl ⟨bytes, hn, rfl⟩)
    | dropped hn => exact .inr (.inr (.inl ⟨hn, rfl⟩))
    | _ => exact .inl (by simp)

/-! ## The open flag (R55) -/

/-- The scanner closes the transport on fault entry and leaves the flag in every other move (R196). -/
theorem scannerMove_txOpen {tx : TxDraw} {s t : State} (hm : ScannerMove tx s t) :
    t.txOpen = s.txOpen ∨
      (t.txOpen = false ∧ t.st = .fault ∧ s.st ≠ .fault ∧ ∃ c, t.event = some (.disconnect c)) := by
  cases hm with
  | pollErr left hst | drainErr left hst | flushErr left hst => exact .inr ⟨rfl, rfl, by simp [hst], _, rfl⟩
  | _ => exact .inl rfl

/-- Settles O56: the two turns that write the flag are equations of the step, and of the other turns the scanner's
alone touch it (`scannerMove_txOpen`). -/
theorem openFlagRules : Obligations.OpenFlagRules := by
  refine ⟨fun s hn => ?opened, fun s hn => ?closed, fun s t h => ?causes⟩
  case opened => simp [step, hn, runTurn]
  case closed => simp [step, hn, runTurn, txClose]
  case causes =>
    cases step_move h with
    | request hd data i t hn hi he => cases he <;> simp +contextual
    | scanner tx t hn hm =>
      obtain hkept | ⟨hclosed, htst, hst, hev⟩ := scannerMove_txOpen hm
      · simp +contextual [hkept]
      · exact ⟨by simp [hclosed], fun _ _ => .inr ⟨htst, by simpa using hst, hev⟩⟩
    | opened hn => simp [hn]
    | closed hn => simp [hn]
    | _ => simp +contextual

/-! ## The wire (R56) -/

theorem scannerMove_wire {tx : TxDraw} {s t : State} (hm : ScannerMove tx s t) : t.wire = s.wire := by
  cases hm <;> rfl

/-- Settles O57: the inversion lemma of a step has one move that writes the wire, a caller's write that lands. -/
theorem writesDoNotInterleave : Obligations.WritesDoNotInterleave := by
  refine ⟨fun s t h => ?wire, fun s bytes hn => ?lands⟩
  case wire =>
    cases step_move h with
    | request hd data i t hn hi he => cases he <;> exact .inl (by simp)
    | scanner tx t hn hm => exact .inl (by simpa using scannerMove_wire hm)
    | written bytes hn => exact .inr ⟨bytes, hn, rfl⟩
    | _ => exact .inl (by simp)
  case lands => simp [step, hn, runTurn]

/-! ## The events (R198) -/

/-- What a step can do to the event port: one constructor for each event R198 names, and `quiet` for every step that
enters neither S_FAULT nor S_EXITED. -/
inductive EventMove (s t : State) : Prop where
  | faultEntry (cause : FaultCause) : s.ScannerNext → s.st ≠ .fault → t.st = .fault → t.faultCause = cause →
      t.event = some (.disconnect cause) → EventMove s t
  | closed : s.ScannerNext → s.st = .poll → t.st = .exited → t.event = some (.loopExit .closed) → EventMove s t
  | emptyDrain : s.ScannerNext → s.st = .drain → t.st = .exited → t.event = some (.loopExit .emptyDrain) →
      EventMove s t
  | cancelled : s.CancelNext → s.st ≠ .exited → t.st = .exited → t.event = some (.loopExit .cancelled) →
      EventMove s t
  | quiet : (t.st = .fault → s.st = .fault) → (t.st = .exited → s.st = .exited) → t.event = none → EventMove s t

theorem scannerMove_eventMove {tx : TxDraw} {s t : State} (hn : s.nextTurn = .scanner tx)
    (hm : ScannerMove tx s.begin t) : EventMove s t := by
  have hs : s.ScannerNext := ⟨tx, hn⟩
  cases hm with
  | pollErr left hst | drainErr left hst | flushErr left hst =>
    rw [begin_st] at hst
    exact .faultEntry _ hs (by simp [hst]) rfl rfl rfl
  | pollClosed hst => exact .closed hs (by simpa using hst) rfl rfl
  | drainEmpty hst => exact .emptyDrain hs (by simpa using hst) rfl rfl
  | wait => exact .quiet (by simp) (by simp) (by simp)
  | _ => exact .quiet (by simp) (by simp) (by simp)

theorem step_eventMove {s t : State} (h : step s = .next t) : EventMove s t := by
  cases step_move h with
  | request hd data i t hn hi he =>
    cases he with
    | answered | started => exact .quiet (by simp) (by simp) (by simp)
    | cancelled cmd hc hst =>
      exact .cancelled ((cancelNext_iff_of_caller hn hi).mpr ⟨cmd, hc⟩) (by simpa using hst) rfl rfl
  | scanner tx t hn hm => exact scannerMove_eventMove hn hm
  | _ => exact .quiet (by simp) (by simp) (by simp)

/-- Settles O52: by `step_eventMove` a step raises one of R198's events or none, and ST and the turn say which. -/
theorem eventsMarkEntry : Obligations.EventsMarkEntry := by
  intro s t h
  cases step_eventMove h with
  | faultEntry cause hs hst htst hcause hev => simp [hev, htst, hst, hcause, eq_comm]
  | closed hs hst htst hev =>
    have hcancel := not_cancelNext_of_scannerNext hs
    simp [hev, htst, hst, hs, hcancel]
  | emptyDrain hs hst htst hev =>
    have hcancel := not_cancelNext_of_scannerNext hs
    simp [hev, htst, hst, hs, hcancel]
  | cancelled hc hst htst hev =>
    have hscan : ¬ s.ScannerNext := fun hs => not_cancelNext_of_scannerNext hs hc
    simp [hev, htst, hst, hc, hscan]
  | quiet hfault hexited hev =>
    simp +contextual [hev, hfault, hexited]

end Sys2Proof.Machine
end

section
/-! The family other, independence: fields that no turn reads (R109, R204, R26), and codec requests beside the scanner
(R59, R21). -/

namespace Sys2Proof.Machine

/-! ## Values that no turn reads -/

/-- A value for a field of the state that no turn reads: CRC_STATUS (R109), FAULT_CAUSE (R26), the two intervals (R204),
the turns still listed. -/
inductive Unread where
  | crcStatus (c : CrcStatus)
  | faultCause (c : FaultCause)
  | intervals (idle settle : Nat)
  | turns (ts : List Turn)

/-- The state with the value written to its field. -/
def Unread.write : Unread → State → State
  | .crcStatus c, s => { s with crcStatus := c }
  | .faultCause c, s => { s with faultCause := c }
  | .intervals idle settle, s => { s with params := { s.params with idleInterval := idle, settleInterval := settle } }
  | .turns ts, s => { s with turns := ts }

/-- What a turn may leave in the field: the value that was there, or, of the two registers, another. -/
inductive Unread.Becomes : Unread → Unread → Prop where
  | kept (x : Unread) : x.Becomes x
  | crcStatus (c c' : CrcStatus) : Becomes (.crcStatus c) (.crcStatus c')
  | faultCause (c c' : FaultCause) : Becomes (.faultCause c) (.faultCause c')

/-- What a turn leaves in the field when it ends in `t`: the register's value there; no turn writes the two others. -/
def Unread.after : Unread → State → Unread
  | .crcStatus _, t => .crcStatus t.crcStatus
  | .faultCause _, t => .faultCause t.faultCause
  | .intervals idle settle, _ => .intervals idle settle
  | .turns ts, _ => .turns ts

theorem Unread.becomes_after (x : Unread) (t : State) : x.Becomes (x.after t) := by
  cases x with
  | crcStatus c => exact .crcStatus c _
  | faultCause c => exact .faultCause c _
  | intervals idle settle => exact .kept _
  | turns ts => exact .kept _

/-- The outcome with `f` applied to the next state, if there is one. -/
def mapNext (f : State → State) : Host.Outcome State Fault Refusal → Host.Outcome State Fault Refusal
  | .next s => .next (f s)
  | .fault r => .fault r
  | .refused r => .refused r

/-- Two outcomes are the same but for the field of `x`. -/
def Unread.Agree (x : Unread) (o o' : Host.Outcome State Fault Refusal) : Prop :=
  ∃ x', x.Becomes x' ∧ o' = mapNext x'.write o

/-- Two states that are the same but for the field of `x`, as outcomes. -/
theorem agree_next {x : Unread} {t t' : State} (h : t' = (x.after t').write t) : x.Agree (.next t) (.next t') :=
  ⟨x.after t', x.becomes_after t', congrArg Host.Outcome.next h⟩

theorem agree_fault (x : Unread) (r : Fault) : x.Agree (.fault r) (.fault r) := ⟨x, .kept x, rfl⟩

theorem agree_refused (x : Unread) (r : Refusal) : x.Agree (.refused r) (.refused r) := ⟨x, .kept x, rfl⟩

section Fields

variable (x : Unread) (s : State)

@[simp] theorem write_st : (x.write s).st = s.st := by cases x <;> rfl
@[simp] theorem write_chunk : (x.write s).chunk = s.chunk := by cases x <;> rfl
@[simp] theorem write_res : (x.write s).res = s.res := by cases x <;> rfl
@[simp] theorem write_idleTimer : (x.write s).idleTimer = s.idleTimer := by cases x <;> rfl
@[simp] theorem write_settleTimer : (x.write s).settleTimer = s.settleTimer := by cases x <;> rfl
@[simp] theorem write_txOpen : (x.write s).txOpen = s.txOpen := by cases x <;> rfl
@[simp] theorem write_rxbuf : (x.write s).rxbuf = s.rxbuf := by cases x <;> rfl
@[simp] theorem write_dispatchDone : (x.write s).dispatchDone = s.dispatchDone := by cases x <;> rfl
@[simp] theorem write_reconnectDone : (x.write s).reconnectDone = s.reconnectDone := by cases x <;> rfl

@[simp] theorem write_offersMalformedFrame : (x.write s).offersMalformedFrame = s.offersMalformedFrame := by
  simp [State.offersMalformedFrame]

/-- The flush policy and the capacity are no intervals. -/
@[simp] theorem write_needsFlush (v : Verdict) : needsFlush (x.write s).params v = needsFlush s.params v := by
  cases x <;> cases v <;> rfl

@[simp] theorem write_capChunk (bytes : List Byte) : capChunk (x.write s).params bytes = capChunk s.params bytes := by
  cases x <;> rfl

/-! ### The scanner -/

theorem recordVerdict_agree (v : Verdict) :
    x.Agree (.next (recordVerdict v s)) (.next (recordVerdict v (x.write s))) := by
  cases hf : needsFlush s.params v with
  | true =>
    rw [recordVerdict_flush v s hf, recordVerdict_flush v (x.write s) (by simpa using hf)]
    exact agree_next (by cases x <;> rfl)
  | false =>
    rw [recordVerdict_drop v s hf, recordVerdict_drop v (x.write s) (by simpa using hf)]
    exact agree_next (by cases x <;> rfl)

theorem pollStep_agree (tx : TxDraw) : x.Agree (.next (pollStep tx s)) (.next (pollStep tx (x.write s))) := by
  cases ho : s.txOpen with
  | false =>
    rw [pollStep_closed tx ho, pollStep_closed tx (by simpa using ho)]
    exact agree_next (by cases x <;> rfl)
  | true =>
    have ho' : (x.write s).txOpen = true := by simpa using ho
    cases tx with
    | err left =>
      rw [pollStep_err left ho, pollStep_err left ho']
      exact agree_next (by cases x <;> rfl)
    | ok =>
      obtain hb | hb := Nat.eq_zero_or_pos s.rxbuf.length
      · rw [pollStep_none ho hb, pollStep_none ho' (by simpa using hb)]
        exact agree_next (by cases x <;> rfl)
      · rw [pollStep_some ho hb, pollStep_some ho' (by simpa using hb)]
        exact agree_next (by cases x <;> rfl)

theorem idleWaitStep_agree : x.Agree (.next (idleWaitStep s)) (.next (idleWaitStep (x.write s))) := by
  by_cases ht : s.idleTimer = .expired
  · rw [idleWaitStep_expired ht, idleWaitStep_expired (by simpa using ht)]
    exact agree_next (by cases x <;> rfl)
  · rw [idleWaitStep_early ht, idleWaitStep_early (by simpa using ht)]
    exact agree_next (by cases x <;> rfl)

theorem settleStep_agree : x.Agree (.next (settleStep s)) (.next (settleStep (x.write s))) := by
  by_cases ht : s.settleTimer = .expired
  · rw [settleStep_expired ht, settleStep_expired (by simpa using ht)]
    exact agree_next (by cases x <;> rfl)
  · rw [settleStep_early ht, settleStep_early (by simpa using ht)]
    exact agree_next (by cases x <;> rfl)

theorem drainStep_agree (tx : TxDraw) : x.Agree (.next (drainStep tx s)) (.next (drainStep tx (x.write s))) := by
  cases tx with
  | err left =>
    rw [drainStep_err, drainStep_err]
    exact agree_next (by cases x <;> rfl)
  | ok =>
    by_cases hb : s.rxbuf = []
    · rw [drainStep_empty hb, drainStep_empty (by simpa using hb)]
      exact agree_next (by cases x <;> rfl)
    · rw [drainStep_bytes hb, drainStep_bytes (by simpa using hb), write_capChunk, write_rxbuf]
      exact agree_next (by cases x <;> rfl)

theorem flushStep_agree (tx : TxDraw) : x.Agree (flushStep tx s) (flushStep tx (x.write s)) := by
  cases tx with
  | err left =>
    rw [flushStep_err, flushStep_err]
    exact agree_next (by cases x <;> rfl)
  | ok =>
    cases hoffer : s.offersMalformedFrame with
    | true =>
      rw [flushStep_malformed hoffer, flushStep_malformed (by simpa using hoffer)]
      exact agree_refused x _
    | false =>
      by_cases hframe : ∃ f, s.res = some (.frame f)
      · obtain ⟨f, hr⟩ := hframe
        have hf : f.wf = true := by simpa [State.offersMalformedFrame, hr] using hoffer
        rw [flushStep_frame hr hf, flushStep_frame (s := x.write s) (by simpa using hr) hf]
        exact agree_next (by cases x <;> rfl)
      · have hr := not_exists.mp hframe
        rw [flushStep_drop hr, flushStep_drop (s := x.write s) (by simpa using hr)]
        exact agree_next (by cases x <;> rfl)

theorem dispatchStep_agree : x.Agree (dispatchStep s) (dispatchStep (x.write s)) := by
  cases hoffer : s.offersMalformedFrame with
  | true =>
    rw [dispatchStep_malformed hoffer, dispatchStep_malformed (by simpa using hoffer)]
    exact agree_refused x _
  | false =>
    have hoffer' : (x.write s).offersMalformedFrame = false := by simpa using hoffer
    cases hd : s.dispatchDone with
    | true =>
      rw [dispatchStep_done hoffer hd, dispatchStep_done hoffer' (by simpa using hd)]
      exact agree_next (by cases x <;> rfl)
    | false =>
      rw [dispatchStep_wait hoffer hd, dispatchStep_wait hoffer' (by simpa using hd)]
      exact agree_next (by cases x <;> rfl)

theorem faultStep_agree : x.Agree (.next (faultStep s)) (.next (faultStep (x.write s))) := by
  cases hd : s.reconnectDone with
  | true =>
    rw [faultStep_done hd, faultStep_done (by simpa using hd)]
    exact agree_next (by cases x <;> rfl)
  | false =>
    rw [faultStep_wait hd, faultStep_wait (by simpa using hd)]
    exact agree_next (by cases x <;> rfl)

theorem scannerStep_agree (tx : TxDraw) : x.Agree (scannerStep tx s) (scannerStep tx (x.write s)) := by
  unfold scannerStep
  rw [write_st]
  cases s.st with
  | reset | exited => exact agree_next (by cases x <;> rfl)
  | poll => exact pollStep_agree x s tx
  | idleWait => exact idleWaitStep_agree x s
  | settle => exact settleStep_agree x s
  | drain => exact drainStep_agree x s tx
  | classify =>
    simp only [classifyStep_eq, write_chunk]
    exact recordVerdict_agree x s _
  | flush => exact flushStep_agree x s tx
  | dispatch => exact dispatchStep_agree x s
  | fault => exact faultStep_agree x s
  | unused k => exact agree_fault x _

/-! ### Instructions and the other turns -/

theorem exec_agree (i : Instr) : x.Agree (exec i s) (exec i (x.write s)) := by
  cases i with
  | start cmd =>
    simp only [exec, execStart, write_st]
    cases s.st with
    | unused k => exact agree_fault x _
    | _ => exact agree_next (by cases x <;> rfl)
  | cancel cmd =>
    simp only [exec, execCancel, write_st]
    cases s.st with
    | unused k => exact agree_fault x _
    | _ => exact agree_next (by cases x <;> rfl)
  | keyStatusShape =>
    simp only [exec, execKeyStatusShape, write_chunk]
    exact recordVerdict_agree x s _
  | broadcastShape =>
    simp only [exec, execBroadcastShape, write_chunk]
    exact recordVerdict_agree x s _
  | unrecognized b0 => exact recordVerdict_agree x s _
  | encode | decode | validate | reservedOp5 | reservedOp6 | reservedOp7 | illegalRequest =>
    exact agree_next (by cases x <;> rfl)

theorem runEncoded_agree (w : Encoded) : x.Agree (runEncoded w s) (runEncoded w (x.write s)) := by
  unfold runEncoded
  cases decode w with
  | ok i => exact exec_agree x s i
  | error e => exact agree_refused x _

theorem runTurn_agree (t : Turn) : x.Agree (runTurn t s) (runTurn t (x.write s)) := by
  cases t with
  | caller h data => exact runEncoded_agree x s _
  | scanner tx => exact scannerStep_agree x s tx
  | callerWrites bytes lands => cases lands <;> exact agree_next (by cases x <;> rfl)
  | supervisorDone =>
    simp only [runTurn, assertReconnectDone, write_st]
    split <;> exact agree_next (by cases x <;> rfl)
  | dispatcherDone =>
    simp only [runTurn, assertDispatchDone, write_st]
    split <;> exact agree_next (by cases x <;> rfl)
  | ownerSetsParams p => exact agree_refused x _
  | _ => exact agree_next (by cases x <;> rfl)

/-- A step reads none of the fields but the list of turns. -/
theorem step_agree (hx : ∀ ts, x ≠ .turns ts) : x.Agree (step s) (step (x.write s)) := by
  have hbegin : (x.write s).nextTurn = s.nextTurn ∧ (x.write s).begin = x.write s.begin := by
    cases x with
    | turns ts => exact absurd rfl (hx ts)
    | _ => cases hts : s.turns <;> simp [State.nextTurn, State.begin, Unread.write, hts]
  obtain ⟨hnext, hbegin⟩ := hbegin
  rw [step, step, hnext, hbegin]
  exact runTurn_agree x s.begin s.nextTurn

end Fields

/-! ## CRC_STATUS, the intervals and FAULT_CAUSE -/

/-- Settles O49: CRC_STATUS is a field no turn reads, so the outcomes differ in it alone. -/
theorem checksumNeverGates : Obligations.ChecksumNeverGates := by
  intro s c
  obtain ⟨x', hx', hstep⟩ := step_agree (.crcStatus c) s (by simp)
  refine ⟨fun t ht => ?next, fun f hf => ?fault, fun r hr => ?refused⟩
  case next =>
    rw [ht] at hstep
    cases hx' with
    | kept => exact ⟨c, hstep⟩
    | crcStatus _ c' => exact ⟨c', hstep⟩
  case fault =>
    rw [hf] at hstep
    exact hstep
  case refused =>
    rw [hr] at hstep
    exact hstep

/-- Settles O54: the intervals are a field no turn reads and no turn writes. -/
theorem intervalsHaveNoEffect : Obligations.IntervalsHaveNoEffect := by
  intro s t a b ht
  obtain ⟨x', hx', hstep⟩ := step_agree (.intervals a b) s (by simp)
  cases hx'
  rw [ht] at hstep
  exact hstep

/-- Fault entry is the one move of the scanner that writes FAULT_CAUSE (R196). -/
theorem scannerMove_faultCause {tx : TxDraw} {s t : State} (hm : ScannerMove tx s t) :
    t.faultCause = s.faultCause ∨ (t.st = .fault ∧ t.event = some (.disconnect t.faultCause)) := by
  cases hm with
  | pollErr | drainErr | flushErr => exact .inr ⟨rfl, rfl⟩
  | _ => exact .inl rfl

/-- What a step can do to FAULT_CAUSE. -/
theorem step_faultCause {s t : State} (h : step s = .next t) :
    t.faultCause = s.faultCause ∨ (t.st = .fault ∧ t.event = some (.disconnect t.faultCause)) ∨
      (s.nextTurn = .ownerResets ∧ t.faultCause = .none) := by
  cases step_move h with
  | request hd data i t hn hi he => cases he <;> exact .inl (by simp)
  | scanner tx t hn hm =>
    obtain hkept | hentry := scannerMove_faultCause hm
    · exact .inl (by simpa using hkept)
    · exact .inr (.inl hentry)
  | reset hn => exact .inr (.inr ⟨hn, rfl⟩)
  | _ => exact .inl (by simp)

/-- Settles O50: the codes are R26's table, `step_faultCause` names the writers, and FAULT_CAUSE is a field no turn
reads. -/
theorem faultCauseInformational : Obligations.FaultCauseInformational := by
  refine ⟨⟨rfl, rfl, rfl, rfl⟩, fun s t => step_faultCause, fun s t c ht => ?unread⟩
  obtain ⟨x', hx', hstep⟩ := step_agree (.faultCause c) s (by simp)
  rw [ht] at hstep
  cases hx' with
  | kept => exact ⟨c, hstep⟩
  | faultCause _ c' => exact ⟨c', hstep⟩

/-! ## Codec requests beside the scanner (R59, R21) -/

/-- A codec request answers by the request alone, in every state, and changes nothing else (R21). -/
theorem exec_codec_respond {i : Instr}
    (h : (∃ cmd p, i = .encode cmd p) ∨ (∃ cmd c, i = .decode cmd c) ∨ ∃ cmd c, i = .validate cmd c) :
    ∃ r, ∀ s, exec i s = .next (respond r s) := by
  obtain ⟨cmd, p, rfl⟩ | ⟨cmd, c, rfl⟩ | ⟨cmd, c, rfl⟩ := h
  · exact ⟨_, exec_encode cmd p⟩
  · exact ⟨_, exec_decode cmd c⟩
  · exact ⟨_, exec_validate cmd c⟩

/-- The scanner's step goes the same way whatever turns are still listed. -/
theorem scannerStep_turns {tx : TxDraw} {s t : State} (ts : List Turn) (h : scannerStep tx s = .next t) :
    scannerStep tx { s with turns := ts } = .next { t with turns := ts } := by
  obtain ⟨x', hx', hstep⟩ := scannerStep_agree (.turns ts) s tx
  cases hx'
  rw [h] at hstep
  exact hstep

/-- Settles O58: the request's answer is the same in every state, and the scanner's step begins with the outputs gone
and does not read the list of turns. -/
theorem codecAndScannerCommute : Obligations.CodecAndScannerCommute := by
  intro s t ts tx h data i hdec hcodec hrun
  obtain ⟨r, hr⟩ := exec_codec_respond hcodec
  have hrequest (u : State) (us : List Turn) (hu : u.turns = .caller h data :: us) :
      step u = .next (respond r u.begin) := by
    rw [step_request (nextTurn_cons u _ us hu) hdec, hr]
  have hfirst : step { s with turns := .caller h data :: .scanner tx :: ts } =
      .next { s with turns := .scanner tx :: ts, response := some r, event := none } := by
    rw [hrequest _ _ rfl, begin_cons rfl, respond]
  rw [run_next 1 hfirst] at hrun
  obtain ⟨u, hu, hrun⟩ := run_succ_inv hrun
  obtain rfl : u = t := Host.Outcome.next.inj hrun
  have hts : u.turns = ts := step_turns rfl hu
  rw [step_scanner (nextTurn_cons _ _ _ rfl), begin_cons rfl] at hu
  have hscanner : step { s with turns := .scanner tx :: .caller h data :: ts } =
      .next { u with turns := .caller h data :: ts } := by
    rw [step_scanner (nextTurn_cons _ _ _ rfl), begin_cons rfl]
    exact scannerStep_turns _ hu
  have hsecond : step { u with turns := .caller h data :: ts } =
      .next { u with turns := ts, response := some r, event := none } := by
    rw [hrequest _ _ rfl, begin_cons rfl, respond]
  exact ⟨r, _, hfirst, by rw [run_next 1 hscanner, run_next 0 hsecond, run_zero], rfl, by rw [← hts]⟩

end Sys2Proof.Machine
end

section
/-! The family other, delivery: a burst in RXBUF is drained, classified and presented (R147 to R156, R105, R106). -/

namespace Sys2Proof.Machine

/-! ## Runs of several turns -/

/-- A run goes on from where a shorter run ended. -/
theorem run_add {s t : State} {k : Nat} (m : Nat) (h : Host.Core.run Sys2Proof.core k s = .next t) :
    Host.Core.run Sys2Proof.core (k + m) s = Host.Core.run Sys2Proof.core m t := by
  induction k generalizing s with
  | zero =>
    cases h
    rw [Nat.zero_add]
  | succ k ih =>
    obtain ⟨u, hu, hrun⟩ := run_succ_inv h
    rw [Nat.add_right_comm, run_next _ hu, ih hrun]

/-- From S_POLL with bytes in RXBUF the turns poll, settle timer, settle and drain put them into CHUNK. -/
theorem run_poll_to_classify {s : State} {tx : TxDraw} {ts : List Turn} (hst : s.st = .poll) (ho : s.txOpen = true)
    (hb : s.rxbuf ≠ [])
    (hts : s.turns = .scanner .ok :: .settleTimerExpires :: .scanner tx :: .scanner .ok :: ts) :
    ∃ t, Host.Core.run Sys2Proof.core 4 s = .next t ∧ t.st = .classify ∧ t.chunk = capChunk s.params s.rxbuf ∧
      t.turns = ts := by
  obtain ⟨p, hpoll, hpst, hpt, hpb, hpp⟩ : ∃ p, step s = .next p ∧ p.st = .settle ∧ p.settleTimer = .running ∧
      p.rxbuf = s.rxbuf ∧ p.params = s.params := by
    rw [step_poll (nextTurn_cons s _ _ hts) hst, pollStep_some (by simpa using ho)
      (by simpa [List.length_pos_iff] using hb)]
    exact ⟨_, rfl, rfl, rfl, by simp, by simp⟩
  have hpts := step_turns hts hpoll
  obtain ⟨q, htimer, hqst, hqt, hqb, hqp⟩ : ∃ q, step p = .next q ∧ q.st = .settle ∧ q.settleTimer = .expired ∧
      q.rxbuf = p.rxbuf ∧ q.params = p.params := by
    rw [step_settleTimerExpires (nextTurn_cons p _ _ hpts)]
    exact ⟨_, rfl, by simpa using hpst, by simp [hpt, Timer.expire], by simp, by simp⟩
  have hqts := step_turns hpts htimer
  obtain ⟨r, hsettle, hrst, hrb, hrp⟩ : ∃ r, step q = .next r ∧ r.st = .drain ∧ r.rxbuf = q.rxbuf ∧
      r.params = q.params := by
    rw [step_settle (nextTurn_cons q _ _ hqts) hqst, settleStep_expired (by simpa using hqt)]
    exact ⟨_, rfl, rfl, by simp, by simp⟩
  have hrts := step_turns hqts hsettle
  have hbytes : r.rxbuf = s.rxbuf := hrb.trans (hqb.trans hpb)
  have hparams : r.params = s.params := hrp.trans (hqp.trans hpp)
  obtain ⟨t, hdrain, htst, htc⟩ : ∃ t, step r = .next t ∧ t.st = .classify ∧
      t.chunk = capChunk s.params s.rxbuf := by
    rw [step_drain (nextTurn_cons r _ _ hrts) hrst, drainStep_bytes (by simpa [hbytes] using hb)]
    exact ⟨_, rfl, rfl, by simp [hbytes, hparams]⟩
  exact ⟨t, by rw [run_next 3 hpoll, run_next 2 htimer, run_next 1 hsettle, run_next 0 hdrain, run_zero], htst, htc,
    step_turns hrts hdrain⟩

/-- From S_CLASSIFY with a frame in CHUNK the turns classify, arrival and flush present it with VALIDATE's verdict on
CHUNK, and nothing that has arrived is left. -/
theorem run_classify_to_dispatch {s : State} {f : Frame} {tx : TxDraw} {more : List Byte} {ts : List Turn}
    (hst : s.st = .classify) (hd : decodeChunk s.chunk = .frame f)
    (hts : s.turns = .scanner tx :: .transportReceives more :: .scanner .ok :: ts) :
    ∃ t, Host.Core.run Sys2Proof.core 3 s = .next t ∧
      t.frameOut = some (f, validateChunk Config.checksum16 s.chunk) ∧ t.rxbuf = [] ∧ t.turns = ts := by
  obtain ⟨p, hclassify, hpst, hpr, hpc⟩ : ∃ p, step s = .next p ∧ p.st = .flush ∧ p.res = some (.frame f) ∧
      p.crcStatus = validateChunk Config.checksum16 s.chunk := by
    rw [step_classify (nextTurn_cons s _ _ hts) hst, hd, recordVerdict_flush _ _ rfl]
    exact ⟨_, rfl, rfl, rfl, by simp⟩
  have hpts := step_turns hts hclassify
  obtain ⟨q, harrival, hqst, hqr, hqc⟩ : ∃ q, step p = .next q ∧ q.st = .flush ∧ q.res = some (.frame f) ∧
      q.crcStatus = validateChunk Config.checksum16 s.chunk := by
    rw [step_transportReceives (nextTurn_cons p _ _ hpts)]
    exact ⟨_, rfl, by simpa using hpst, by simpa using hpr, by simpa using hpc⟩
  have hqts := step_turns hpts harrival
  have hf : f.wf = true := decodeChunk_frame_wf hd
  have hflush : step q = .next { q.begin with rxbuf := [], st := .dispatch } := by
    rw [step_flush (nextTurn_cons q _ _ hqts) hqst, flushStep_frame (by simpa using hqr) hf]
  have hout := frameOut_dispatch (s := { q.begin with rxbuf := [], st := .dispatch }) rfl (by simpa using hqr)
  exact ⟨_, by rw [run_next 2 hclassify, run_next 1 harrival, run_next 0 hflush, run_zero],
    by simpa [hqc] using hout, rfl, step_turns hqts hflush⟩

/-! ## Delivery -/

/-- A capacity that the invariant allows changes no verdict on what was drained. -/
theorem verdicts_capChunk {p : Params} (c : List Byte) (wide : ∀ n, p.chunkCapacity = some n → 259 ≤ n) :
    decodeChunk (capChunk p c) = decodeChunk c ∧
      validateChunk Config.checksum16 (capChunk p c) = validateChunk Config.checksum16 c := by
  unfold capChunk
  split
  case h_1 => exact ⟨rfl, rfl⟩
  case h_2 n hcap => exact capacityUnobservable _ n c (wide n hcap)

/-- DECODE of ENCODE's output for a shape's command and a payload of its length, whatever follows. -/
theorem decodeChunk_encodeFrame_append {ck : List Byte → Half} (sh : Shape) {p e : List Byte} (t : List Byte)
    (h : encodeFrame ck sh.code p = .ok e) (hlen : p.length = sh.payloadLen) :
    decodeChunk (e ++ t) = .frame ⟨sh.code, BitVec.ofNat 8 p.length, p, 0#16⟩ := by
  have hd := decodeChunk_encodeFrame_exact sh h hlen
  rw [decodeChunk_append t (by simp [hd]), hd, hlen]

/-- Settles O60: the burst is drained into CHUNK whole or cut at 259 bytes or more, where DECODE finds the frame that
was encoded and VALIDATE accepts it, and the frame is presented. -/
theorem encodedFrameIsDelivered : Obligations.EncodedFrameIsDelivered := by
  intro s cmd p e tail more tx tx' ts hi hst ho hshape he hb hts
  obtain ⟨sh, rfl, hlen⟩ : ∃ sh : Shape, cmd = sh.code ∧ p.length = sh.payloadLen := by
    obtain ⟨rfl, hlen⟩ | ⟨rfl, hlen⟩ := hshape
    · exact ⟨.keyStatus, rfl, hlen⟩
    · exact ⟨.broadcast, rfl, hlen⟩
  have hne : s.rxbuf ≠ [] := by
    obtain ⟨helen, -⟩ := encodeFrame_readBack he
    rw [hb, ← List.length_pos_iff, List.length_append]
    omega
  obtain ⟨u, hdrained, hust, huc, huts⟩ := run_poll_to_classify hst ho hne hts
  obtain ⟨hdecode, hvalidate⟩ := verdicts_capChunk s.rxbuf hi.capacityWide
  have hframe : decodeChunk u.chunk = .frame ⟨sh.code, BitVec.ofNat 8 p.length, p, 0#16⟩ := by
    rw [huc, hdecode, hb, decodeChunk_encodeFrame_append sh tail he hlen]
  have hvalid : validateChunk Config.checksum16 u.chunk = .valid := by
    rw [huc, hvalidate, hb, validateChunk_encodeFrame tail he]
  obtain ⟨t, hpresented, hout, hempty, htts⟩ := run_classify_to_dispatch hust hframe huts
  exact ⟨t, by rw [run_add 3 hdrained, hpresented], by rw [hout, hvalid], hempty, htts⟩

end Sys2Proof.Machine
end
